-- ==== Sys2Proof/Word.lean ====
section
/-!
DEFINITION. Word.lean: the word types of the command stream and the register space (30_encoding.md R101,
R102; 10_state.md R28). Bits are numbered from 0 at the least significant end (00_scope.md R8).
-/

namespace Sys2Proof

/-- A register cell: "Every register of this block is 8 bits wide" (R28). -/
abbrev Byte := BitVec 8

/-- A 16-bit operand `B`, a register address, or a 16-bit count (R102, R36). -/
abbrev Half := BitVec 16

/-- A word of the command stream (R101). -/
abbrev Word := BitVec 32

/-- The 64-bit argument of a format HA command, and the cycle counter (R101, R20). -/
abbrev Long := BitVec 64

/-- A pin index. `N_PIN`, at most 32, says which of them name a pin (R7, R29; assumption log 8). -/
abbrev PinIx := Fin 32

end Sys2Proof
end

