-- ==== Sys2Proof/Syntax.lean ====
section
/-!
DEFINITION. Syntax.lean: the identifiers of the block (30_encoding.md R109 to R116) and `Instr`, one constructor
per row of spec/opcode_table.json. An operand is decoded here into the name it stands for, so the machine never
sees a raw code.
-/

namespace Sys2Proof

/-- `Level = L | H | Z` (10_state.md R29). -/
inductive Level where
  | L | H | Z
  deriving DecidableEq, Repr

/-- The Timer2-family instances, `x` in 2, 4, 6 (R39). -/
inductive T2Id where
  | t2 | t4 | t6
  deriving DecidableEq, Repr

/-- The capture/compare/PWM units, `i` in 1, 2 (R44). -/
inductive CcpId where
  | ccp1 | ccp2
  deriving DecidableEq, Repr

/-- The configurable logic cells, `n` in 1 to 4 (R54). -/
inductive ClcId where
  | clc1 | clc2 | clc3 | clc4
  deriving DecidableEq, Repr

/-- Trigger ids (R112). `ext j` is the host test trigger EXTj. -/
inductive TrigId where
  | t0Ovf | t1Brk
  | tBrk (x : T2Id)
  | ccpDb (i : CcpId)
  | ccpPulse (i : CcpId)
  | oscSettle | oscOst | ncoOvf | ncoPulse | adcSeq
  | ext (j : Fin 32)
  deriving DecidableEq, Repr

/-- Event-bus channel kinds (R113). -/
inductive ChanKind where
  | t0Ovf | t1Ovf | t2Match | clcOut | pwmEdge | cmpEdge | zcdEdge | angPulse | freq | ncoOut | adcDone
  deriving DecidableEq, Repr

/-- Bus receiver ids (R114). `clcIn n y` is the receiver of input `y + 1` of cell `n`; `host j` is HOSTj. -/
inductive RecvId where
  | t1Gate
  | tRst (x : T2Id)
  | ccpAs (i : CcpId)
  | clcIn (n : ClcId) (y : Fin 4)
  | host (j : Fin 32)
  deriving DecidableEq, Repr

/-- Pin sources (R115). `ccp1 k` is output `k` (0 = A to 3 = D) of CCP1; CCP2 has output A only. -/
inductive SrcId where
  | ccp1 (k : Fin 4)
  | ccp2A
  | clc (n : ClcId)
  | nco
  deriving DecidableEq, Repr

/-- Pin direction controls (R115). -/
inductive CtlId where
  | alwaysOut | alwaysIn
  | ccp1 (k : Fin 4)
  | ccp2A
  | clc (n : ClcId)
  | nco
  deriving DecidableEq, Repr

/-- Pin sinks (R115). -/
inductive SinkId where
  | t0cki | t1cki | t1osi | t1g
  | ccpIn (i : CcpId)
  | clcIn (n : ClcId) (y : Fin 4)
  | ncoclk
  | ccpShut (i : CcpId)
  | tRst (x : T2Id)
  deriving DecidableEq, Repr

/-- The voltage that SETV sets: a channel, Vref high (0xFE) or Vref low (0xFF) (R104, R427). -/
inductive AdcInput where
  | chan (ch : Fin 32)
  | vrefHi | vrefLo
  deriving DecidableEq, Repr

/-- The cells of the register map (R111). `x`, `i`, `n` choose the instance of a unit; `clcsel n y` is
CLCnSELy and `clcgls n k` is CLCnGLSk, both numbered from 0. -/
inductive Reg where
  | cycle (k : Fin 8) | fault
  | tmr0 | t0con | t0stat
  | tmr1l | tmr1h | t1con | t1gcon | t1stat
  | tmr (x : T2Id) | pr (x : T2Id) | tcon (x : T2Id) | thlt (x : T2Id) | tclkcon (x : T2Id) | trst (x : T2Id)
  | tstat (x : T2Id)
  | ccprl (i : CcpId) | ccprh (i : CcpId) | ccpcon (i : CcpId) | ccptsel (i : CcpId) | pwmcon (i : CcpId)
  | ccpas (i : CcpId) | ccpstat (i : CcpId) | ccppol (i : CcpId)
  | osccon | osctune | oscstat
  | clccon (n : ClcId) | clcpol (n : ClcId) | clcsel (n : ClcId) (y : Fin 4) | clcgls (n : ClcId) (k : Fin 4)
  | clcstat (n : ClcId)
  | ncoaccl | ncoacch | ncoaccu | ncoincl | ncoinch | ncocon | ncoclk | ncostat
  | adresl | adresh | adcon0 | adcon1 | adacq | adstat
  deriving DecidableEq, Repr

/-- The commands, one constructor per row of spec/opcode_table.json (R104). `put v a` is the row PUT itself: a PUT
whose address names no cell of the register map (R82); a PUT of a mapped cell is the row of that cell. -/
inductive Instr where
  | now
  | sched (t : TrigId) (c : Long)
  | cancel (t : TrigId)
  | resched (t : TrigId) (c : Long)
  | advance
  | step
  | setsrc (p : PinIx) (src : Option SrcId)
  | setctl (p : PinIx) (ctl : Option CtlId)
  | addsink (p : PinIx) (k : SinkId)
  | rmsink (p : PinIx) (k : SinkId)
  | updpin (p : PinIx)
  | drive (p : PinIx) (l : Level)
  | pinrd (p : PinIx)
  | attach (k : ChanKind) (r : RecvId)
  | detach (k : ChanKind) (r : RecvId)
  | publish (k : ChanKind) (sub : Half) (v : Long)
  | put (v : Byte) (a : Half)
  | get (a : Half)
  | getv (a : Half)
  | setv (ch : AdcInput) (uv : Long)
  | getfreq
  | sleep
  | wake
  | reset
  | putCycle0 (v : Byte)
  | putCycle1 (v : Byte)
  | putCycle2 (v : Byte)
  | putCycle3 (v : Byte)
  | putCycle4 (v : Byte)
  | putCycle5 (v : Byte)
  | putCycle6 (v : Byte)
  | putCycle7 (v : Byte)
  | putFault (v : Byte)
  | putTmr0 (v : Byte)
  | putT0con (v : Byte)
  | putT0stat (v : Byte)
  | putTmr1l (v : Byte)
  | putTmr1h (v : Byte)
  | putT1con (v : Byte)
  | putT1gcon (v : Byte)
  | putT1stat (v : Byte)
  | putTmr2 (v : Byte)
  | putPr2 (v : Byte)
  | putT2con (v : Byte)
  | putT2hlt (v : Byte)
  | putT2clkcon (v : Byte)
  | putT2rst (v : Byte)
  | putT2stat (v : Byte)
  | putTmr4 (v : Byte)
  | putPr4 (v : Byte)
  | putT4con (v : Byte)
  | putT4hlt (v : Byte)
  | putT4clkcon (v : Byte)
  | putT4rst (v : Byte)
  | putT4stat (v : Byte)
  | putTmr6 (v : Byte)
  | putPr6 (v : Byte)
  | putT6con (v : Byte)
  | putT6hlt (v : Byte)
  | putT6clkcon (v : Byte)
  | putT6rst (v : Byte)
  | putT6stat (v : Byte)
  | putCcpr1l (v : Byte)
  | putCcpr1h (v : Byte)
  | putCcp1con (v : Byte)
  | putCcp1tsel (v : Byte)
  | putPwm1con (v : Byte)
  | putCcp1as (v : Byte)
  | putCcp1stat (v : Byte)
  | putCcp1pol (v : Byte)
  | putCcpr2l (v : Byte)
  | putCcpr2h (v : Byte)
  | putCcp2con (v : Byte)
  | putCcp2tsel (v : Byte)
  | putPwm2con (v : Byte)
  | putCcp2as (v : Byte)
  | putCcp2stat (v : Byte)
  | putCcp2pol (v : Byte)
  | putOsccon (v : Byte)
  | putOsctune (v : Byte)
  | putOscstat (v : Byte)
  | putClc1con (v : Byte)
  | putClc1pol (v : Byte)
  | putClc1sel0 (v : Byte)
  | putClc1sel1 (v : Byte)
  | putClc1sel2 (v : Byte)
  | putClc1sel3 (v : Byte)
  | putClc1gls0 (v : Byte)
  | putClc1gls1 (v : Byte)
  | putClc1gls2 (v : Byte)
  | putClc1gls3 (v : Byte)
  | putClc1stat (v : Byte)
  | putClc2con (v : Byte)
  | putClc2pol (v : Byte)
  | putClc2sel0 (v : Byte)
  | putClc2sel1 (v : Byte)
  | putClc2sel2 (v : Byte)
  | putClc2sel3 (v : Byte)
  | putClc2gls0 (v : Byte)
  | putClc2gls1 (v : Byte)
  | putClc2gls2 (v : Byte)
  | putClc2gls3 (v : Byte)
  | putClc2stat (v : Byte)
  | putClc3con (v : Byte)
  | putClc3pol (v : Byte)
  | putClc3sel0 (v : Byte)
  | putClc3sel1 (v : Byte)
  | putClc3sel2 (v : Byte)
  | putClc3sel3 (v : Byte)
  | putClc3gls0 (v : Byte)
  | putClc3gls1 (v : Byte)
  | putClc3gls2 (v : Byte)
  | putClc3gls3 (v : Byte)
  | putClc3stat (v : Byte)
  | putClc4con (v : Byte)
  | putClc4pol (v : Byte)
  | putClc4sel0 (v : Byte)
  | putClc4sel1 (v : Byte)
  | putClc4sel2 (v : Byte)
  | putClc4sel3 (v : Byte)
  | putClc4gls0 (v : Byte)
  | putClc4gls1 (v : Byte)
  | putClc4gls2 (v : Byte)
  | putClc4gls3 (v : Byte)
  | putClc4stat (v : Byte)
  | putNcoaccl (v : Byte)
  | putNcoacch (v : Byte)
  | putNcoaccu (v : Byte)
  | putNcoincl (v : Byte)
  | putNcoinch (v : Byte)
  | putNcocon (v : Byte)
  | putNcoclk (v : Byte)
  | putNcostat (v : Byte)
  | putAdresl (v : Byte)
  | putAdresh (v : Byte)
  | putAdcon0 (v : Byte)
  | putAdcon1 (v : Byte)
  | putAdacq (v : Byte)
  | putAdstat (v : Byte)
  deriving DecidableEq, Repr

end Sys2Proof
end

