-- ==== Sys2Proof/Config.lean ====
section
/-!
DEFINITION. Config.lean: the configuration record `Cfg` of 00_scope.md R7, "fixed at construction": the OPEN tables and
parameters, each with the spec's default, and the construction inputs. `State` holds one `Cfg` and no meaning changes
it, so a statement about every state is a statement about every configuration. `N_PIN` and `N_ADC_CH` are any numbers up
to 32; of `N_CCP`, `N_CLC` and `N_NCO` only 2, 4 and 1 are well-formed, since "the rules are written for these counts;
other counts renumber units and ids" (93_implementation_defined.md section 3; assumption log 8).
-/

namespace Sys2Proof

/-- Signal-source descriptors (R116). `low` is `None`, "constant L". -/
inductive SigDesc where
  | pin (p : PinIx)
  | bus (k : ChanKind) (sub : Nat)
  | low
  | refused
  deriving DecidableEq, Repr

/-- The entries of `T2_CLK_TABLE` (R42): Fosc/4, Fosc, the internal RC, or an OPEN entry, which "supplies no input
clocks" (R231). -/
inductive T2Clk where
  | fosc4 | fosc | intRc | openEntry
  deriving DecidableEq, Repr

/-- The level gate of a hardware-limit policy (R240). -/
inductive HltGate where
  | none | high | low
  deriving DecidableEq, Repr

/-- The start condition of a hardware-limit policy (R240). -/
inductive HltStart where
  | none | software | rise | fall | any | levelH | levelL
  deriving DecidableEq, Repr

/-- The reset condition of a hardware-limit policy (R240). -/
inductive HltReset where
  | none | rise | fall | any | levelL | levelH
  deriving DecidableEq, Repr

/-- What a period end does under a hardware-limit policy (R240, R241). -/
inductive HltEnd where
  | free | oneshot | monostable
  deriving DecidableEq, Repr

/-- A row of `HLT_TABLE`: `M = (gate, start, reset, end)`, or RESERVED, which "does not count" (R240). -/
inductive HltPolicy where
  | reserved
  | policy (gate : HltGate) (start : HltStart) (reset : HltReset) (fin : HltEnd)
  deriving DecidableEq, Repr

/-- The tier of an `IRCF_FREQ_TABLE` entry (R344). -/
inductive Tier where
  | lf | mf | hf
  deriving DecidableEq, Repr

/-- `Cfg.FOSC_CFG` (R7). -/
inductive FoscCfg where
  | internal | external
  deriving DecidableEq, Repr

/-- The configuration record (R7). -/
structure Cfg where
  nCcp : Nat
  nClc : Nat
  nNco : Nat
  /-- `N_PIN`: the pins are those with an index below it. -/
  nPin : Nat
  /-- `N_ADC_CH`: the ADC channels are those with an index below it. -/
  nAdcCh : Nat
  /-- `CLC_INPUT_TABLE`: for each cell, 64 descriptors. -/
  clcInputTable : List (List SigDesc)
  t1GateTable : List SigDesc
  t2ClkTable : List T2Clk
  t2RstTable : List SigDesc
  ccpAsTable : List SigDesc
  hltTable : List HltPolicy
  ircfTable : List (Rat × Tier)
  /-- `TUNE_FACTOR`, indexed by the six bits of OSCTUNE.TUN. -/
  tuneFactor : List Rat
  ostCycles : Nat
  settleCycles : Nat
  foscCfg : FoscCfg
  foscExtHz : Rat
  fsecHz : Rat
  twoSpeed : Bool
  adcGuard : Nat
  adcBits : Nat
  adcFrcTad : Rat
  busDepthMax : Nat
  pulseCycles : Nat
  deriving DecidableEq, Repr

/-- The default `HLT_TABLE` of R240. -/
def defaultHltTable : List HltPolicy :=
  [ .policy .none .none .none .free,
    .policy .high .none .none .free,
    .policy .low .none .none .free,
    .policy .none .none .any .free,
    .policy .none .none .rise .free,
    .policy .none .none .fall .free,
    .policy .none .none .levelL .free,
    .policy .none .none .levelH .free,
    .policy .none .software .none .oneshot,
    .policy .none .rise .none .oneshot,
    .policy .none .fall .none .oneshot,
    .policy .none .any .none .oneshot,
    .policy .none .rise .fall .oneshot,
    .policy .none .fall .rise .oneshot,
    .policy .none .levelH .levelL .oneshot,
    .policy .none .levelL .levelH .oneshot,
    .reserved,
    .policy .none .rise .none .monostable,
    .policy .none .fall .none .monostable,
    .policy .none .any .none .monostable ] ++
  List.replicate 12 .reserved

/-- The default `IRCF_FREQ_TABLE` of R344, in Hz. -/
def defaultIrcfTable : List (Rat × Tier) :=
  [ (31000, .lf), (31000, .lf), (31250, .mf), (31250, .hf),
    (62500, .mf), (125000, .mf), (250000, .mf), (500000, .mf),
    (125000, .hf), (250000, .hf), (500000, .hf), (1000000, .hf),
    (2000000, .hf), (4000000, .hf), (8000000, .hf), (16000000, .hf) ]

/-- `1 + TUN / 1000` for TUN read as six bits of two's complement: the trim R343 offers to a model. -/
def defaultTuneFactor : List Rat :=
  (List.range 32).map (fun i => (mkRat (1000 + i) 1000)) ++
  (List.range 32).map (fun i => (mkRat (968 + i) 1000))

/-- The default `T2_RST_TABLE` of R116 with the T2IN pin at index `p`. -/
def defaultT2RstTable (p : PinIx) : List SigDesc :=
  [ .low, .pin p, .bus .clcOut 1, .bus .clcOut 2, .bus .clcOut 3, .bus .clcOut 4,
    .bus .cmpEdge 1, .bus .cmpEdge 2, .bus .zcdEdge 1 ] ++ List.replicate 23 .low

/-- The default `CCP_AS_TABLE` of R116 with the shutdown pin at index `p`. -/
def defaultCcpAsTable (p : PinIx) : List SigDesc :=
  [ .low, .pin p, .bus .cmpEdge 1, .bus .cmpEdge 2, .bus .clcOut 1, .low, .low, .low ]

/-- The configuration of `State.reset`: every default the spec gives, `FOSC_CFG = INTERNAL` (the start state of
95_test_vectors.md), and for the inputs that have no default (the crystal, two-speed start-up, the CLC input table and
the wired pin indices) the values that assumption log 2 names. DESIGN CHOICE. -/
def Cfg.default : Cfg where
  nCcp := 2
  nClc := 4
  nNco := 1
  nPin := 32
  nAdcCh := 32
  clcInputTable := List.replicate 4 (List.replicate 64 .low)
  t1GateTable := [ .pin 6, .bus .t0Ovf 0, .bus .cmpEdge 1, .bus .cmpEdge 2 ]
  t2ClkTable := [ .fosc4, .fosc, .intRc ] ++ List.replicate 13 .openEntry
  t2RstTable := defaultT2RstTable 8
  ccpAsTable := defaultCcpAsTable 10
  hltTable := defaultHltTable
  ircfTable := defaultIrcfTable
  tuneFactor := defaultTuneFactor
  ostCycles := 1024
  settleCycles := 1
  foscCfg := .internal
  foscExtHz := 8000000
  fsecHz := 32768
  twoSpeed := false
  adcGuard := 0
  adcBits := 10
  adcFrcTad := 1
  busDepthMax := 64
  pulseCycles := 1

end Sys2Proof
end

