-- ==== Sys2Proof/Decode.lean ====
section
/-!
DEFINITION. Decode.lean: the encodings of 30_encoding.md. The identifier codes (R109 to R115), the decoder, total on any
words and rejecting by name (R101 to R105), and after it the encoder, written from the same tables.
-/

namespace Sys2Proof

/-! ### Identifier codes -/

def T2Id.num : T2Id → Nat
  | .t2 => 2 | .t4 => 4 | .t6 => 6

def t2OfNum : Nat → Option T2Id
  | 2 => some .t2 | 4 => some .t4 | 6 => some .t6 | _ => none

def CcpId.idx : CcpId → Nat
  | .ccp1 => 0 | .ccp2 => 1

def ClcId.idx : ClcId → Nat
  | .clc1 => 0 | .clc2 => 1 | .clc3 => 2 | .clc4 => 3

def clcOfIdx : Nat → Option ClcId
  | 0 => some .clc1 | 1 => some .clc2 | 2 => some .clc3 | 3 => some .clc4 | _ => none

/-- The code of a trigger (R112). -/
def TrigId.code : TrigId → Nat
  | .t0Ovf => 0x00 | .t1Brk => 0x01
  | .tBrk .t2 => 0x02 | .tBrk .t4 => 0x03 | .tBrk .t6 => 0x04
  | .ccpDb .ccp1 => 0x08 | .ccpDb .ccp2 => 0x09
  | .ccpPulse .ccp1 => 0x0A | .ccpPulse .ccp2 => 0x0B
  | .oscSettle => 0x0C | .oscOst => 0x0D | .ncoOvf => 0x0E | .ncoPulse => 0x0F | .adcSeq => 0x10
  | .ext j => 0x20 + j

def trigOfCode (n : Nat) : Option TrigId :=
  if h : 0x20 ≤ n ∧ n < 0x40 then some (.ext ⟨n - 0x20, by omega⟩)
  else match n with
    | 0x00 => some .t0Ovf | 0x01 => some .t1Brk
    | 0x02 => some (.tBrk .t2) | 0x03 => some (.tBrk .t4) | 0x04 => some (.tBrk .t6)
    | 0x08 => some (.ccpDb .ccp1) | 0x09 => some (.ccpDb .ccp2)
    | 0x0A => some (.ccpPulse .ccp1) | 0x0B => some (.ccpPulse .ccp2)
    | 0x0C => some .oscSettle | 0x0D => some .oscOst | 0x0E => some .ncoOvf | 0x0F => some .ncoPulse
    | 0x10 => some .adcSeq
    | _ => none

/-- "The host's scheduler commands may name only EXT triggers" (R112). -/
def TrigId.isExt : TrigId → Bool
  | .ext _ => true
  | _ => false

/-- The code of a channel kind (R113). -/
def ChanKind.code : ChanKind → Nat
  | .t0Ovf => 0x01 | .t1Ovf => 0x02 | .t2Match => 0x03 | .clcOut => 0x04 | .pwmEdge => 0x05 | .cmpEdge => 0x06
  | .zcdEdge => 0x07 | .angPulse => 0x08 | .freq => 0x09 | .ncoOut => 0x0A | .adcDone => 0x0B

def chanOfCode : Nat → Option ChanKind
  | 0x01 => some .t0Ovf | 0x02 => some .t1Ovf | 0x03 => some .t2Match | 0x04 => some .clcOut | 0x05 => some .pwmEdge
  | 0x06 => some .cmpEdge | 0x07 => some .zcdEdge | 0x08 => some .angPulse | 0x09 => some .freq | 0x0A => some .ncoOut
  | 0x0B => some .adcDone
  | _ => none

/-- The code of `CLCn` input `y + 1` counted from 0: `4(n - 1) + (y - 1)` (R114, R115). -/
def clcInCode (n : ClcId) (y : Fin 4) : Nat := 4 * n.idx + y

def clcInOfCode (m : Nat) : Option (ClcId × Fin 4) :=
  (clcOfIdx (m / 4)).map (fun n => (n, Fin.ofNat 4 (m % 4)))

/-- The code of a bus receiver (R114). -/
def RecvId.code : RecvId → Nat
  | .t1Gate => 0x0000
  | .tRst x => x.num
  | .ccpAs i => 0x0010 + i.idx
  | .clcIn n y => 0x0020 + clcInCode n y
  | .host j => 0x0100 + j

def recvOfCode (m : Nat) : Option RecvId :=
  if h : 0x0100 ≤ m ∧ m < 0x0120 then some (.host ⟨m - 0x0100, by omega⟩)
  else if 0x0020 ≤ m ∧ m < 0x0030 then (clcInOfCode (m - 0x0020)).map (fun q => .clcIn q.1 q.2)
  else match m with
    | 0x0000 => some .t1Gate
    | 0x0002 => some (.tRst .t2) | 0x0004 => some (.tRst .t4) | 0x0006 => some (.tRst .t6)
    | 0x0010 => some (.ccpAs .ccp1) | 0x0011 => some (.ccpAs .ccp2)
    | _ => none

/-- "a host ATTACH or DETACH naming a peripheral receiver is illegal" (R114). -/
def RecvId.isHost : RecvId → Bool
  | .host _ => true
  | _ => false

/-- The code of a pin source (R115). -/
def SrcId.code : SrcId → Nat
  | .ccp1 k => 0x0010 + k
  | .ccp2A => 0x0014
  | .clc n => 0x0020 + n.idx
  | .nco => 0x0028

def srcOfCode (m : Nat) : Option SrcId :=
  if h : 0x0010 ≤ m ∧ m < 0x0014 then some (.ccp1 ⟨m - 0x0010, by omega⟩)
  else if 0x0020 ≤ m ∧ m < 0x0024 then (clcOfIdx (m - 0x0020)).map .clc
  else match m with
    | 0x0014 => some .ccp2A
    | 0x0028 => some .nco
    | _ => none

/-- The code of a pin control (R115). -/
def CtlId.code : CtlId → Nat
  | .alwaysOut => 0x0000
  | .alwaysIn => 0x0001
  | .ccp1 k => 0x0010 + k
  | .ccp2A => 0x0014
  | .clc n => 0x0020 + n.idx
  | .nco => 0x0028

def ctlOfCode (m : Nat) : Option CtlId :=
  if h : 0x0010 ≤ m ∧ m < 0x0014 then some (.ccp1 ⟨m - 0x0010, by omega⟩)
  else if 0x0020 ≤ m ∧ m < 0x0024 then (clcOfIdx (m - 0x0020)).map .clc
  else match m with
    | 0x0000 => some .alwaysOut
    | 0x0001 => some .alwaysIn
    | 0x0014 => some .ccp2A
    | 0x0028 => some .nco
    | _ => none

/-- The code of a pin sink (R115). -/
def SinkId.code : SinkId → Nat
  | .t0cki => 0x0000 | .t1cki => 0x0001 | .t1osi => 0x0002 | .t1g => 0x0003
  | .ccpIn i => 0x0008 + i.idx
  | .clcIn n y => 0x0020 + clcInCode n y
  | .ncoclk => 0x0030
  | .ccpShut i => 0x0038 + i.idx
  | .tRst x => 0x0040 + x.num

def sinkOfCode (m : Nat) : Option SinkId :=
  if 0x0020 ≤ m ∧ m < 0x0030 then (clcInOfCode (m - 0x0020)).map (fun q => .clcIn q.1 q.2)
  else match m with
    | 0x0000 => some .t0cki | 0x0001 => some .t1cki | 0x0002 => some .t1osi | 0x0003 => some .t1g
    | 0x0008 => some (.ccpIn .ccp1) | 0x0009 => some (.ccpIn .ccp2)
    | 0x0030 => some .ncoclk
    | 0x0038 => some (.ccpShut .ccp1) | 0x0039 => some (.ccpShut .ccp2)
    | 0x0042 => some (.tRst .t2) | 0x0044 => some (.tRst .t4) | 0x0046 => some (.tRst .t6)
    | _ => none

/-- The fixed-input sinks, "wired by the host"; the others are added and removed by their peripheral (R115). -/
def SinkId.hostWired : SinkId → Bool
  | .t0cki | .t1cki | .t1osi | .ccpIn _ | .ncoclk => true
  | .t1g | .clcIn _ _ | .ccpShut _ | .tRst _ => false

/-- The code of a level, `B[1:0]` (R103). -/
def Level.code : Level → Nat
  | .L => 0 | .H => 1 | .Z => 2

def levelOfCode : Nat → Option Level
  | 0 => some .L | 1 => some .H | 2 => some .Z | _ => none

/-- The `A` operand of SETV (R104). -/
def AdcInput.code : AdcInput → Nat
  | .chan ch => ch
  | .vrefHi => 0xFE
  | .vrefLo => 0xFF

def adcInputOfCode (m : Nat) : Option AdcInput :=
  if h : m < 32 then some (.chan ⟨m, h⟩)
  else match m with
    | 0xFE => some .vrefHi
    | 0xFF => some .vrefLo
    | _ => none

/-! ### The register map -/

/-- The unit of a register, `B[15:8]` (R109). -/
def T2Id.unit : T2Id → Nat
  | .t2 => 0x03 | .t4 => 0x04 | .t6 => 0x05

def CcpId.unit (i : CcpId) : Nat := 0x06 + i.idx

def ClcId.unit (n : ClcId) : Nat := 0x09 + n.idx

/-- The unit and offset of a register cell (R111). -/
def Reg.place : Reg → Nat × Nat
  | .cycle k => (0x00, k) | .fault => (0x00, 0x08)
  | .tmr0 => (0x01, 0x00) | .t0con => (0x01, 0x01) | .t0stat => (0x01, 0x02)
  | .tmr1l => (0x02, 0x00) | .tmr1h => (0x02, 0x01) | .t1con => (0x02, 0x02) | .t1gcon => (0x02, 0x03)
  | .t1stat => (0x02, 0x04)
  | .tmr x => (x.unit, 0x00) | .pr x => (x.unit, 0x01) | .tcon x => (x.unit, 0x02) | .thlt x => (x.unit, 0x03)
  | .tclkcon x => (x.unit, 0x04) | .trst x => (x.unit, 0x05) | .tstat x => (x.unit, 0x06)
  | .ccprl i => (i.unit, 0x00) | .ccprh i => (i.unit, 0x01) | .ccpcon i => (i.unit, 0x02)
  | .ccptsel i => (i.unit, 0x03) | .pwmcon i => (i.unit, 0x04) | .ccpas i => (i.unit, 0x05)
  | .ccpstat i => (i.unit, 0x06) | .ccppol i => (i.unit, 0x07)
  | .osccon => (0x08, 0x00) | .osctune => (0x08, 0x01) | .oscstat => (0x08, 0x02)
  | .clccon n => (n.unit, 0x00) | .clcpol n => (n.unit, 0x01) | .clcsel n y => (n.unit, 0x02 + y)
  | .clcgls n k => (n.unit, 0x06 + k) | .clcstat n => (n.unit, 0x0A)
  | .ncoaccl => (0x0D, 0x00) | .ncoacch => (0x0D, 0x01) | .ncoaccu => (0x0D, 0x02) | .ncoincl => (0x0D, 0x03)
  | .ncoinch => (0x0D, 0x04) | .ncocon => (0x0D, 0x05) | .ncoclk => (0x0D, 0x06) | .ncostat => (0x0D, 0x07)
  | .adresl => (0x0E, 0x00) | .adresh => (0x0E, 0x01) | .adcon0 => (0x0E, 0x02) | .adcon1 => (0x0E, 0x03)
  | .adacq => (0x0E, 0x04) | .adstat => (0x0E, 0x05)

/-- A register address is `{unit, offset}` (R110). -/
def Reg.addr (r : Reg) : Half := BitVec.ofNat 16 (r.place.1 * 256 + r.place.2)

def tmrRegOf (x : T2Id) : Nat → Option Reg
  | 0x00 => some (.tmr x) | 0x01 => some (.pr x) | 0x02 => some (.tcon x) | 0x03 => some (.thlt x)
  | 0x04 => some (.tclkcon x) | 0x05 => some (.trst x) | 0x06 => some (.tstat x) | _ => none

def ccpRegOf (i : CcpId) : Nat → Option Reg
  | 0x00 => some (.ccprl i) | 0x01 => some (.ccprh i) | 0x02 => some (.ccpcon i) | 0x03 => some (.ccptsel i)
  | 0x04 => some (.pwmcon i) | 0x05 => some (.ccpas i) | 0x06 => some (.ccpstat i) | 0x07 => some (.ccppol i)
  | _ => none

def clcRegOf (n : ClcId) : Nat → Option Reg
  | 0x00 => some (.clccon n) | 0x01 => some (.clcpol n)
  | 0x02 => some (.clcsel n 0) | 0x03 => some (.clcsel n 1) | 0x04 => some (.clcsel n 2) | 0x05 => some (.clcsel n 3)
  | 0x06 => some (.clcgls n 0) | 0x07 => some (.clcgls n 1) | 0x08 => some (.clcgls n 2) | 0x09 => some (.clcgls n 3)
  | 0x0A => some (.clcstat n) | _ => none

def coreRegOf (o : Nat) : Option Reg :=
  if h : o < 8 then some (.cycle ⟨o, h⟩) else if o = 8 then some .fault else none

def timer0RegOf : Nat → Option Reg
  | 0x00 => some .tmr0 | 0x01 => some .t0con | 0x02 => some .t0stat | _ => none

def timer1RegOf : Nat → Option Reg
  | 0x00 => some .tmr1l | 0x01 => some .tmr1h | 0x02 => some .t1con | 0x03 => some .t1gcon | 0x04 => some .t1stat
  | _ => none

def oscRegOf : Nat → Option Reg
  | 0x00 => some .osccon | 0x01 => some .osctune | 0x02 => some .oscstat | _ => none

def ncoRegOf : Nat → Option Reg
  | 0x00 => some .ncoaccl | 0x01 => some .ncoacch | 0x02 => some .ncoaccu | 0x03 => some .ncoincl
  | 0x04 => some .ncoinch | 0x05 => some .ncocon | 0x06 => some .ncoclk | 0x07 => some .ncostat | _ => none

def adcRegOf : Nat → Option Reg
  | 0x00 => some .adresl | 0x01 => some .adresh | 0x02 => some .adcon0 | 0x03 => some .adcon1 | 0x04 => some .adacq
  | 0x05 => some .adstat | _ => none

/-- The cell at unit `u`, offset `o`: "The mapped offsets of each unit are exactly those of rule R111" (R110). -/
def regAt (u o : Nat) : Option Reg :=
  match u with
  | 0x00 => coreRegOf o
  | 0x01 => timer0RegOf o
  | 0x02 => timer1RegOf o
  | 0x03 => tmrRegOf .t2 o
  | 0x04 => tmrRegOf .t4 o
  | 0x05 => tmrRegOf .t6 o
  | 0x06 => ccpRegOf .ccp1 o
  | 0x07 => ccpRegOf .ccp2 o
  | 0x08 => oscRegOf o
  | 0x09 => clcRegOf .clc1 o
  | 0x0A => clcRegOf .clc2 o
  | 0x0B => clcRegOf .clc3 o
  | 0x0C => clcRegOf .clc4 o
  | 0x0D => ncoRegOf o
  | 0x0E => adcRegOf o
  | _ => none

/-- The unit field of an address, `B[15:8]`. -/
def unitOf (a : Half) : Nat := a.toNat / 256

def regOfAddr (a : Half) : Option Reg := regAt (unitOf a) (a.toNat % 256)

/-! ### The decoder -/

/-- Why a command is illegal (R105). -/
inductive DecodeError where
  | unknownOpcode | unusedField | badLevel | badPin | badTrigger | managedTrigger | badSource | badControl | badSink
  | managedSink | badReceiver | managedReceiver | badChannel | badAdcChannel
  deriving DecidableEq, Repr

/-- `OP = W[31:24]`, `A = W[23:16]`, `B = W[15:0]` (R102). -/
def opField (w : Word) : Nat := (w.extractLsb' 24 8).toNat
def aField (w : Word) : Byte := w.extractLsb' 16 8
def bField (w : Word) : Half := w.extractLsb' 0 16

/-- Format HA, "fixed by the opcode" (R101, R104). -/
def isHA (op : Nat) : Bool := op == 0x02 || op == 0x04 || op == 0x1A || op == 0x28

/-- How many words a command takes; a reader "knows a command's length from its first word" (R101). An unknown opcode
takes one word (assumption log 5). DEDUCED -/
def cmdLen (hdr : Word) : Nat := if isHA (opField hdr) then 3 else 1

def pinOf (a : Byte) : Except DecodeError PinIx :=
  if h : a.toNat < 32 then .ok ⟨a.toNat, h⟩ else .error .badPin

def zeroA (hdr : Word) : Except DecodeError Unit :=
  if aField hdr = 0 then .ok () else .error .unusedField

def zeroB (hdr : Word) : Except DecodeError Unit :=
  if bField hdr = 0 then .ok () else .error .unusedField

/-- A trigger operand of a host command: an EXT trigger (R112). -/
def hostTrigOf (a : Byte) : Except DecodeError TrigId :=
  match trigOfCode a.toNat with
  | none => .error .badTrigger
  | some t => if t.isExt then .ok t else .error .managedTrigger

def srcOperand (b : Half) : Except DecodeError (Option SrcId) :=
  if b = 0xFFFF then .ok none
  else match srcOfCode b.toNat with
    | some k => .ok (some k)
    | none => .error .badSource

def ctlOperand (b : Half) : Except DecodeError (Option CtlId) :=
  if b = 0xFFFF then .ok none
  else match ctlOfCode b.toNat with
    | some k => .ok (some k)
    | none => .error .badControl

def hostSinkOf (b : Half) : Except DecodeError SinkId :=
  match sinkOfCode b.toNat with
  | none => .error .badSink
  | some k => if k.hostWired then .ok k else .error .managedSink

def hostRecvOf (b : Half) : Except DecodeError RecvId :=
  match recvOfCode b.toNat with
  | none => .error .badReceiver
  | some r => if r.isHost then .ok r else .error .managedReceiver

def chanOf (a : Byte) : Except DecodeError ChanKind :=
  match chanOfCode a.toNat with
  | some k => .ok k
  | none => .error .badChannel

def levelOf (b : Half) : Except DecodeError Level :=
  match levelOfCode b.toNat with
  | some l => .ok l
  | none => if b.toNat = 3 then .error .badLevel else .error .unusedField

def adcInputOf (a : Byte) : Except DecodeError AdcInput :=
  match adcInputOfCode a.toNat with
  | some c => .ok c
  | none => .error .badAdcChannel

/-- The row of a PUT to a mapped cell (R104, R111). -/
def putRow (v : Byte) : Reg → Instr
  | .cycle 0 => .putCycle0 v
  | .cycle 1 => .putCycle1 v
  | .cycle 2 => .putCycle2 v
  | .cycle 3 => .putCycle3 v
  | .cycle 4 => .putCycle4 v
  | .cycle 5 => .putCycle5 v
  | .cycle 6 => .putCycle6 v
  | .cycle 7 => .putCycle7 v
  | .fault => .putFault v
  | .tmr0 => .putTmr0 v
  | .t0con => .putT0con v
  | .t0stat => .putT0stat v
  | .tmr1l => .putTmr1l v
  | .tmr1h => .putTmr1h v
  | .t1con => .putT1con v
  | .t1gcon => .putT1gcon v
  | .t1stat => .putT1stat v
  | .tmr .t2 => .putTmr2 v
  | .pr .t2 => .putPr2 v
  | .tcon .t2 => .putT2con v
  | .thlt .t2 => .putT2hlt v
  | .tclkcon .t2 => .putT2clkcon v
  | .trst .t2 => .putT2rst v
  | .tstat .t2 => .putT2stat v
  | .tmr .t4 => .putTmr4 v
  | .pr .t4 => .putPr4 v
  | .tcon .t4 => .putT4con v
  | .thlt .t4 => .putT4hlt v
  | .tclkcon .t4 => .putT4clkcon v
  | .trst .t4 => .putT4rst v
  | .tstat .t4 => .putT4stat v
  | .tmr .t6 => .putTmr6 v
  | .pr .t6 => .putPr6 v
  | .tcon .t6 => .putT6con v
  | .thlt .t6 => .putT6hlt v
  | .tclkcon .t6 => .putT6clkcon v
  | .trst .t6 => .putT6rst v
  | .tstat .t6 => .putT6stat v
  | .ccprl .ccp1 => .putCcpr1l v
  | .ccprh .ccp1 => .putCcpr1h v
  | .ccpcon .ccp1 => .putCcp1con v
  | .ccptsel .ccp1 => .putCcp1tsel v
  | .pwmcon .ccp1 => .putPwm1con v
  | .ccpas .ccp1 => .putCcp1as v
  | .ccpstat .ccp1 => .putCcp1stat v
  | .ccppol .ccp1 => .putCcp1pol v
  | .ccprl .ccp2 => .putCcpr2l v
  | .ccprh .ccp2 => .putCcpr2h v
  | .ccpcon .ccp2 => .putCcp2con v
  | .ccptsel .ccp2 => .putCcp2tsel v
  | .pwmcon .ccp2 => .putPwm2con v
  | .ccpas .ccp2 => .putCcp2as v
  | .ccpstat .ccp2 => .putCcp2stat v
  | .ccppol .ccp2 => .putCcp2pol v
  | .osccon => .putOsccon v
  | .osctune => .putOsctune v
  | .oscstat => .putOscstat v
  | .clccon .clc1 => .putClc1con v
  | .clcpol .clc1 => .putClc1pol v
  | .clcsel .clc1 0 => .putClc1sel0 v
  | .clcsel .clc1 1 => .putClc1sel1 v
  | .clcsel .clc1 2 => .putClc1sel2 v
  | .clcsel .clc1 3 => .putClc1sel3 v
  | .clcgls .clc1 0 => .putClc1gls0 v
  | .clcgls .clc1 1 => .putClc1gls1 v
  | .clcgls .clc1 2 => .putClc1gls2 v
  | .clcgls .clc1 3 => .putClc1gls3 v
  | .clcstat .clc1 => .putClc1stat v
  | .clccon .clc2 => .putClc2con v
  | .clcpol .clc2 => .putClc2pol v
  | .clcsel .clc2 0 => .putClc2sel0 v
  | .clcsel .clc2 1 => .putClc2sel1 v
  | .clcsel .clc2 2 => .putClc2sel2 v
  | .clcsel .clc2 3 => .putClc2sel3 v
  | .clcgls .clc2 0 => .putClc2gls0 v
  | .clcgls .clc2 1 => .putClc2gls1 v
  | .clcgls .clc2 2 => .putClc2gls2 v
  | .clcgls .clc2 3 => .putClc2gls3 v
  | .clcstat .clc2 => .putClc2stat v
  | .clccon .clc3 => .putClc3con v
  | .clcpol .clc3 => .putClc3pol v
  | .clcsel .clc3 0 => .putClc3sel0 v
  | .clcsel .clc3 1 => .putClc3sel1 v
  | .clcsel .clc3 2 => .putClc3sel2 v
  | .clcsel .clc3 3 => .putClc3sel3 v
  | .clcgls .clc3 0 => .putClc3gls0 v
  | .clcgls .clc3 1 => .putClc3gls1 v
  | .clcgls .clc3 2 => .putClc3gls2 v
  | .clcgls .clc3 3 => .putClc3gls3 v
  | .clcstat .clc3 => .putClc3stat v
  | .clccon .clc4 => .putClc4con v
  | .clcpol .clc4 => .putClc4pol v
  | .clcsel .clc4 0 => .putClc4sel0 v
  | .clcsel .clc4 1 => .putClc4sel1 v
  | .clcsel .clc4 2 => .putClc4sel2 v
  | .clcsel .clc4 3 => .putClc4sel3 v
  | .clcgls .clc4 0 => .putClc4gls0 v
  | .clcgls .clc4 1 => .putClc4gls1 v
  | .clcgls .clc4 2 => .putClc4gls2 v
  | .clcgls .clc4 3 => .putClc4gls3 v
  | .clcstat .clc4 => .putClc4stat v
  | .ncoaccl => .putNcoaccl v
  | .ncoacch => .putNcoacch v
  | .ncoaccu => .putNcoaccu v
  | .ncoincl => .putNcoincl v
  | .ncoinch => .putNcoinch v
  | .ncocon => .putNcocon v
  | .ncoclk => .putNcoclk v
  | .ncostat => .putNcostat v
  | .adresl => .putAdresl v
  | .adresh => .putAdresh v
  | .adcon0 => .putAdcon0 v
  | .adcon1 => .putAdcon1 v
  | .adacq => .putAdacq v
  | .adstat => .putAdstat v

/-- A PUT: the row of the cell that its address names, or the row PUT itself for an unmapped address. -/
def decodePut (v : Byte) (a : Half) : Instr :=
  match regOfAddr a with
  | some r => putRow v r
  | none => .put v a

/-- The command that a header word and its argument stand for (R102 to R105). The argument is not read for format H. -/
def decodeCmd (hdr : Word) (arg : Long) : Except DecodeError Instr :=
  let a := aField hdr
  let b := bField hdr
  match opField hdr with
  | 0x01 => do zeroA hdr; zeroB hdr; return .now
  | 0x02 => do let t ← hostTrigOf a; zeroB hdr; return .sched t arg
  | 0x03 => do let t ← hostTrigOf a; zeroB hdr; return .cancel t
  | 0x04 => do let t ← hostTrigOf a; zeroB hdr; return .resched t arg
  | 0x05 => do zeroA hdr; zeroB hdr; return .advance
  | 0x06 => do zeroA hdr; zeroB hdr; return .step
  | 0x10 => do let p ← pinOf a; let k ← srcOperand b; return .setsrc p k
  | 0x11 => do let p ← pinOf a; let k ← ctlOperand b; return .setctl p k
  | 0x12 => do let p ← pinOf a; let k ← hostSinkOf b; return .addsink p k
  | 0x13 => do let p ← pinOf a; let k ← hostSinkOf b; return .rmsink p k
  | 0x14 => do let p ← pinOf a; zeroB hdr; return .updpin p
  | 0x15 => do let p ← pinOf a; let l ← levelOf b; return .drive p l
  | 0x16 => do let p ← pinOf a; zeroB hdr; return .pinrd p
  | 0x18 => do let k ← chanOf a; let r ← hostRecvOf b; return .attach k r
  | 0x19 => do let k ← chanOf a; let r ← hostRecvOf b; return .detach k r
  | 0x1A => do let k ← chanOf a; return .publish k b arg
  | 0x20 => return decodePut a b
  | 0x21 => do zeroA hdr; return .get b
  | 0x22 => do zeroA hdr; return .getv b
  | 0x28 => do let c ← adcInputOf a; zeroB hdr; return .setv c arg
  | 0x29 => do zeroA hdr; zeroB hdr; return .getfreq
  | 0x30 => do zeroA hdr; zeroB hdr; return .sleep
  | 0x31 => do zeroA hdr; zeroB hdr; return .wake
  | 0x3F => do zeroA hdr; zeroB hdr; return .reset
  | _ => .error .unknownOpcode

/-- What the head of a command stream holds: no complete command yet, an illegal command, or a command; with the words
that follow it. -/
inductive Decoded where
  | incomplete
  | illegal (e : DecodeError) (rest : List Word)
  | command (i : Instr) (rest : List Word)
  deriving DecidableEq, Repr

/-- `ARG = {w2, w1}`, low word first (R101). -/
def argOf (w1 w2 : Word) : Long := w2 ++ w1

def finish (r : Except DecodeError Instr) (rest : List Word) : Decoded :=
  match r with
  | .ok i => .command i rest
  | .error e => .illegal e rest

/-- Reads one command off the stream (R101). -/
def decode : List Word → Decoded
  | [] => .incomplete
  | hdr :: ws =>
    if isHA (opField hdr) then
      match ws with
      | w1 :: w2 :: rest => finish (decodeCmd hdr (argOf w1 w2)) rest
      | _ => .incomplete
    else finish (decodeCmd hdr 0) ws

/-! ### The encoder -/

/-- A header word (R102). -/
def mkHdr (op a : Byte) (b : Half) : Word := op ++ a ++ b

def byteOf (n : Nat) : Byte := BitVec.ofNat 8 n
def halfOf (n : Nat) : Half := BitVec.ofNat 16 n

/-- The two words of an argument, low word first (R101). -/
def argWords (v : Long) : List Word := [v.extractLsb' 0 32, v.extractLsb' 32 32]

def hdrPut (v : Byte) (r : Reg) : List Word := [mkHdr 0x20 v r.addr]

/-- An optional id; 0xFFFF means `none` (R103). -/
def optCode (n : Option Nat) : Half :=
  match n with
  | some m => halfOf m
  | none => 0xFFFF

/-- The words of a command (R101 to R104). -/
def encode : Instr → List Word
  | .now => [mkHdr 0x01 0 0]
  | .sched t c => mkHdr 0x02 (byteOf t.code) 0 :: argWords c
  | .cancel t => [mkHdr 0x03 (byteOf t.code) 0]
  | .resched t c => mkHdr 0x04 (byteOf t.code) 0 :: argWords c
  | .advance => [mkHdr 0x05 0 0]
  | .step => [mkHdr 0x06 0 0]
  | .setsrc p k => [mkHdr 0x10 (byteOf p) (optCode (k.map SrcId.code))]
  | .setctl p k => [mkHdr 0x11 (byteOf p) (optCode (k.map CtlId.code))]
  | .addsink p k => [mkHdr 0x12 (byteOf p) (halfOf k.code)]
  | .rmsink p k => [mkHdr 0x13 (byteOf p) (halfOf k.code)]
  | .updpin p => [mkHdr 0x14 (byteOf p) 0]
  | .drive p l => [mkHdr 0x15 (byteOf p) (halfOf l.code)]
  | .pinrd p => [mkHdr 0x16 (byteOf p) 0]
  | .attach k r => [mkHdr 0x18 (byteOf k.code) (halfOf r.code)]
  | .detach k r => [mkHdr 0x19 (byteOf k.code) (halfOf r.code)]
  | .publish k b v => mkHdr 0x1A (byteOf k.code) b :: argWords v
  | .put v a => [mkHdr 0x20 v a]
  | .get a => [mkHdr 0x21 0 a]
  | .getv a => [mkHdr 0x22 0 a]
  | .setv c v => mkHdr 0x28 (byteOf c.code) 0 :: argWords v
  | .getfreq => [mkHdr 0x29 0 0]
  | .sleep => [mkHdr 0x30 0 0]
  | .wake => [mkHdr 0x31 0 0]
  | .reset => [mkHdr 0x3F 0 0]
  | .putCycle0 v => hdrPut v (.cycle 0)
  | .putCycle1 v => hdrPut v (.cycle 1)
  | .putCycle2 v => hdrPut v (.cycle 2)
  | .putCycle3 v => hdrPut v (.cycle 3)
  | .putCycle4 v => hdrPut v (.cycle 4)
  | .putCycle5 v => hdrPut v (.cycle 5)
  | .putCycle6 v => hdrPut v (.cycle 6)
  | .putCycle7 v => hdrPut v (.cycle 7)
  | .putFault v => hdrPut v (.fault)
  | .putTmr0 v => hdrPut v (.tmr0)
  | .putT0con v => hdrPut v (.t0con)
  | .putT0stat v => hdrPut v (.t0stat)
  | .putTmr1l v => hdrPut v (.tmr1l)
  | .putTmr1h v => hdrPut v (.tmr1h)
  | .putT1con v => hdrPut v (.t1con)
  | .putT1gcon v => hdrPut v (.t1gcon)
  | .putT1stat v => hdrPut v (.t1stat)
  | .putTmr2 v => hdrPut v (.tmr .t2)
  | .putPr2 v => hdrPut v (.pr .t2)
  | .putT2con v => hdrPut v (.tcon .t2)
  | .putT2hlt v => hdrPut v (.thlt .t2)
  | .putT2clkcon v => hdrPut v (.tclkcon .t2)
  | .putT2rst v => hdrPut v (.trst .t2)
  | .putT2stat v => hdrPut v (.tstat .t2)
  | .putTmr4 v => hdrPut v (.tmr .t4)
  | .putPr4 v => hdrPut v (.pr .t4)
  | .putT4con v => hdrPut v (.tcon .t4)
  | .putT4hlt v => hdrPut v (.thlt .t4)
  | .putT4clkcon v => hdrPut v (.tclkcon .t4)
  | .putT4rst v => hdrPut v (.trst .t4)
  | .putT4stat v => hdrPut v (.tstat .t4)
  | .putTmr6 v => hdrPut v (.tmr .t6)
  | .putPr6 v => hdrPut v (.pr .t6)
  | .putT6con v => hdrPut v (.tcon .t6)
  | .putT6hlt v => hdrPut v (.thlt .t6)
  | .putT6clkcon v => hdrPut v (.tclkcon .t6)
  | .putT6rst v => hdrPut v (.trst .t6)
  | .putT6stat v => hdrPut v (.tstat .t6)
  | .putCcpr1l v => hdrPut v (.ccprl .ccp1)
  | .putCcpr1h v => hdrPut v (.ccprh .ccp1)
  | .putCcp1con v => hdrPut v (.ccpcon .ccp1)
  | .putCcp1tsel v => hdrPut v (.ccptsel .ccp1)
  | .putPwm1con v => hdrPut v (.pwmcon .ccp1)
  | .putCcp1as v => hdrPut v (.ccpas .ccp1)
  | .putCcp1stat v => hdrPut v (.ccpstat .ccp1)
  | .putCcp1pol v => hdrPut v (.ccppol .ccp1)
  | .putCcpr2l v => hdrPut v (.ccprl .ccp2)
  | .putCcpr2h v => hdrPut v (.ccprh .ccp2)
  | .putCcp2con v => hdrPut v (.ccpcon .ccp2)
  | .putCcp2tsel v => hdrPut v (.ccptsel .ccp2)
  | .putPwm2con v => hdrPut v (.pwmcon .ccp2)
  | .putCcp2as v => hdrPut v (.ccpas .ccp2)
  | .putCcp2stat v => hdrPut v (.ccpstat .ccp2)
  | .putCcp2pol v => hdrPut v (.ccppol .ccp2)
  | .putOsccon v => hdrPut v (.osccon)
  | .putOsctune v => hdrPut v (.osctune)
  | .putOscstat v => hdrPut v (.oscstat)
  | .putClc1con v => hdrPut v (.clccon .clc1)
  | .putClc1pol v => hdrPut v (.clcpol .clc1)
  | .putClc1sel0 v => hdrPut v (.clcsel .clc1 0)
  | .putClc1sel1 v => hdrPut v (.clcsel .clc1 1)
  | .putClc1sel2 v => hdrPut v (.clcsel .clc1 2)
  | .putClc1sel3 v => hdrPut v (.clcsel .clc1 3)
  | .putClc1gls0 v => hdrPut v (.clcgls .clc1 0)
  | .putClc1gls1 v => hdrPut v (.clcgls .clc1 1)
  | .putClc1gls2 v => hdrPut v (.clcgls .clc1 2)
  | .putClc1gls3 v => hdrPut v (.clcgls .clc1 3)
  | .putClc1stat v => hdrPut v (.clcstat .clc1)
  | .putClc2con v => hdrPut v (.clccon .clc2)
  | .putClc2pol v => hdrPut v (.clcpol .clc2)
  | .putClc2sel0 v => hdrPut v (.clcsel .clc2 0)
  | .putClc2sel1 v => hdrPut v (.clcsel .clc2 1)
  | .putClc2sel2 v => hdrPut v (.clcsel .clc2 2)
  | .putClc2sel3 v => hdrPut v (.clcsel .clc2 3)
  | .putClc2gls0 v => hdrPut v (.clcgls .clc2 0)
  | .putClc2gls1 v => hdrPut v (.clcgls .clc2 1)
  | .putClc2gls2 v => hdrPut v (.clcgls .clc2 2)
  | .putClc2gls3 v => hdrPut v (.clcgls .clc2 3)
  | .putClc2stat v => hdrPut v (.clcstat .clc2)
  | .putClc3con v => hdrPut v (.clccon .clc3)
  | .putClc3pol v => hdrPut v (.clcpol .clc3)
  | .putClc3sel0 v => hdrPut v (.clcsel .clc3 0)
  | .putClc3sel1 v => hdrPut v (.clcsel .clc3 1)
  | .putClc3sel2 v => hdrPut v (.clcsel .clc3 2)
  | .putClc3sel3 v => hdrPut v (.clcsel .clc3 3)
  | .putClc3gls0 v => hdrPut v (.clcgls .clc3 0)
  | .putClc3gls1 v => hdrPut v (.clcgls .clc3 1)
  | .putClc3gls2 v => hdrPut v (.clcgls .clc3 2)
  | .putClc3gls3 v => hdrPut v (.clcgls .clc3 3)
  | .putClc3stat v => hdrPut v (.clcstat .clc3)
  | .putClc4con v => hdrPut v (.clccon .clc4)
  | .putClc4pol v => hdrPut v (.clcpol .clc4)
  | .putClc4sel0 v => hdrPut v (.clcsel .clc4 0)
  | .putClc4sel1 v => hdrPut v (.clcsel .clc4 1)
  | .putClc4sel2 v => hdrPut v (.clcsel .clc4 2)
  | .putClc4sel3 v => hdrPut v (.clcsel .clc4 3)
  | .putClc4gls0 v => hdrPut v (.clcgls .clc4 0)
  | .putClc4gls1 v => hdrPut v (.clcgls .clc4 1)
  | .putClc4gls2 v => hdrPut v (.clcgls .clc4 2)
  | .putClc4gls3 v => hdrPut v (.clcgls .clc4 3)
  | .putClc4stat v => hdrPut v (.clcstat .clc4)
  | .putNcoaccl v => hdrPut v (.ncoaccl)
  | .putNcoacch v => hdrPut v (.ncoacch)
  | .putNcoaccu v => hdrPut v (.ncoaccu)
  | .putNcoincl v => hdrPut v (.ncoincl)
  | .putNcoinch v => hdrPut v (.ncoinch)
  | .putNcocon v => hdrPut v (.ncocon)
  | .putNcoclk v => hdrPut v (.ncoclk)
  | .putNcostat v => hdrPut v (.ncostat)
  | .putAdresl v => hdrPut v (.adresl)
  | .putAdresh v => hdrPut v (.adresh)
  | .putAdcon0 v => hdrPut v (.adcon0)
  | .putAdcon1 v => hdrPut v (.adcon1)
  | .putAdacq v => hdrPut v (.adacq)
  | .putAdstat v => hdrPut v (.adstat)

/-! ### The table's view -/

/-- The words of an instruction whose bits are `w`, in the table's numbering: bit 0 is bit 0 of the first word, and
every bit from `nbits` on is 0. Three words, the longest instruction (R101). -/
def tableWords (nbits w : Nat) : List Word :=
  let v := w % 2 ^ nbits
  [BitVec.ofNat 32 v, BitVec.ofNat 32 (v / 2 ^ 32), BitVec.ofNat 32 (v / 2 ^ 64)]

/-- The words of the instruction itself: one or three, by the opcode. -/
def tableCmd (nbits w : Nat) : List Word :=
  let ws := tableWords nbits w
  match ws with
  | hdr :: _ => ws.take (cmdLen hdr)
  | [] => []

/-- The instruction the decoder reads from an instruction whose bits are `w`; `none` where it refuses. -/
def decodeTableWord (nbits w : Nat) : Option Instr :=
  match decode (tableCmd nbits w) with
  | .command i _ => some i
  | _ => none

end Sys2Proof
end

