-- ==== Sys2Proof/Machine/State.lean ====
section
/-!
DEFINITION. Machine/State.lean: every piece of state that 10_state.md gives the block (R20 to R62), as plain data, the
reasons a step can stop, and the state after reset (70_reset_and_hazards.md R470 to R472).

A view that the spec defines from other state is a function of Machine/*.lean, not a second copy: `pending` (R23, the
queue's entry for a trigger), the CYCLE, FAULT and OSCSTAT registers and the RO status bits (R38, R43, R49, R53, R55,
R58, R62), the current divisors, and `clc_subs` (R54, held by the pins' sinks and the bus subscriptions).
-/

namespace Sys2Proof.Machine

open Sys2Proof

/-- Why a run cannot go on. -/
inductive Fault where
  /-- Raised by ADVANCE and STEP exactly where the firing loop of R136 never ends: "a run that never ends (a hang)"
  (R142). SAFE: the machine stops where the block would go on firing for ever. -/
  | advanceHang
  deriving DecidableEq, Repr

/-- Why a command has no meaning. -/
inductive Refusal where
  /-- Raised by an arm of `exec` whose instruction has no meaning in the model yet; no arm raises it today. SAFE. -/
  | notModelled (mnemonic : String)
  deriving DecidableEq, Repr

/-- The kinds of the sticky fault record, in FAULT bit order (R446). -/
inductive FaultKind where
  | schedDouble | cycleWrap | illegalCmd | badReg | unmodelled | busDepth
  deriving DecidableEq, Repr

/-- `faults : Set FaultKind` (R24): one membership bit a kind. -/
structure FaultSet where
  schedDouble : Bool := false
  cycleWrap : Bool := false
  illegalCmd : Bool := false
  badReg : Bool := false
  unmodelled : Bool := false
  busDepth : Bool := false
  deriving DecidableEq, Repr

/-- The interrupt flags (R64, R440). -/
inductive Flag where
  | tmr0 | tmr1
  | tmrx (x : T2Id)
  | ccp (i : CcpId)
  | clc (n : ClcId)
  | nco | adc
  deriving DecidableEq, Repr

/-- The warnings of R445. -/
inductive WarnKind where
  | adcOff | adcSpan
  deriving DecidableEq, Repr

/-- The records of the output log (R27). Cycles are the `now` a record is stamped with. -/
inductive OutRec where
  | fire (t : TrigId) (c : Nat)
  | irq (f : Flag) (c : Nat)
  | pin (p : PinIx) (l : Level) (c : Nat)
  | freq (hz : Nat) (c : Nat)
  | warn (w : WarnKind) (c : Nat)
  | reply (v : Nat)
  | recv (r : RecvId) (k : ChanKind) (sub : Nat) (v : Nat) (c : Nat)
  deriving DecidableEq, Repr

/-- An entry `(cycle, ins, trig)` of the deferred-event queue (R22). The cycle is not cut to 64 bits: "A model must
compare cycles without overflow" (95_test_vectors.md S10; assumption log 7). DEDUCED -/
structure Event where
  cycle : Nat
  ins : Nat
  trig : TrigId
  deriving DecidableEq, Repr

/-- A prescale or postscale counter `(cnt, div)` (R31). -/
structure Prescaler where
  cnt : Nat
  div : Nat
  deriving DecidableEq, Repr

/-- A clock ratio `K = num/den`, input clocks per cycle (R202). -/
structure Ratio where
  num : Nat
  den : Nat
  deriving DecidableEq, Repr

/-- A pin module (R29). -/
structure Pin where
  src : Option SrcId
  ctl : Option CtlId
  sinks : List SinkId
  ext : Level
  lvl : Level
  deriving DecidableEq, Repr

/-- Timer0 (R32 to R34). -/
structure Timer0 where
  con : Byte
  flag : Bool
  run : Bool
  anchor : Int
  held : Byte
  pre : Prescaler
  deriving DecidableEq, Repr

/-- `t1_break_kind : Set {ROLL, CMP(i)}` (R35). -/
structure T1Kinds where
  roll : Bool := false
  cmp1 : Bool := false
  cmp2 : Bool := false
  deriving DecidableEq, Repr

/-- Timer1 (R35 to R38). -/
structure Timer1 where
  con : Byte
  gcon : Byte
  flag : Bool
  run : Bool
  anchor : Int
  held : Half
  pre : Prescaler
  gateTff : Bool
  gateLvl : Level
  cmp : List (CcpId × Half)
  breakValue : Option Nat
  breakKind : T1Kinds
  deriving DecidableEq, Repr

/-- A Timer2-family instance (R39 to R43). `ratio` is the clock ratio that `anchor` counts in, the model's own field: R203
and R242 read a count "under the old ratio" after the frequencies have changed (assumption log 14). -/
structure Timer2 where
  pr : Byte
  con : Byte
  hlt : Byte
  clkcon : Byte
  rst : Byte
  flag : Bool
  run : Bool
  anchor : Int
  held : Byte
  post : Prescaler
  ers : Level
  armed : Bool
  breakValue : Option Rat
  breakMask : Byte
  pwm : List CcpId
  ratio : Ratio
  deriving DecidableEq, Repr

/-- A CCP unit (R44 to R49). The four outputs A to D are entries 0 to 3. `asLvl` is the level of the selected shutdown
signal that R310 and R311 keep (assumption log 9). -/
structure Ccp where
  rl : Byte
  rh : Byte
  con : Byte
  tsel : Byte
  pwmcon : Byte
  as : Byte
  pol : Byte
  flag : Bool
  out : Vector Level 4
  capPre : Prescaler
  dcLatched : Nat
  dutyArmed : Bool
  shutdown : Bool
  dbTarget : Option (Fin 4 × Level)
  mod : Level
  pin : Vector Level 4
  asLvl : Level
  deriving DecidableEq, Repr

/-- The oscillator's state (R50). -/
inductive OscState where
  | intRc | ost | extStable
  deriving DecidableEq, Repr

/-- The external sources (R50, R341). -/
inductive ExtSrc where
  | primary | secondary
  deriving DecidableEq, Repr

/-- Oscillator control (R50 to R53). -/
structure Osc where
  con : Byte
  tune : Byte
  state : OscState
  settled : Bool
  target : Option ExtSrc
  fInt : Rat
  fEff : Rat
  deriving DecidableEq, Repr

/-- A configurable logic cell (R54 to R56). -/
structure Clc where
  con : Byte
  pol : Byte
  sel : Vector Byte 4
  gls : Vector Byte 4
  flag : Bool
  inp : Vector Level 4
  q : Bool
  g1Prev : Bool
  out : Bool
  deriving DecidableEq, Repr

/-- The NCO (R57, R58). `lvl` is the pin-side level last presented, which R404 compares "on a change" (assumption
log 9). -/
structure Nco where
  acc : BitVec 20
  inc : Half
  con : Byte
  clk : Byte
  flag : Bool
  anchor : Int
  out : Bool
  pulseLeft : Nat
  lvl : Bool
  deriving DecidableEq, Repr

/-- The ADC sequencer's state (R59). -/
inductive AdcState where
  | idle | acquiring | converting
  deriving DecidableEq, Repr

/-- The ADC (R59, R60). Voltages are exact rationals, in volts. -/
structure Adc where
  resl : Byte
  resh : Byte
  con0 : Byte
  con1 : Byte
  acq : Byte
  flag : Bool
  state : AdcState
  vin : Rat
  vhi : Rat
  vlo : Rat
  deriving DecidableEq, Repr

/-- The state of the block. -/
structure State where
  /-- The configuration record (R7). -/
  cfg : Cfg
  /-- The command words the host has sent and the block has not yet taken, oldest first (R100, R101). The model's own. -/
  cmds : List Word
  /-- The cycle counter (R20). -/
  now : Long
  /-- The insertion counter (R21). -/
  seq : Nat
  /-- The deferred-event queue in `(cycle, ins)` order (R22). -/
  queue : List Event
  /-- The sticky fault record (R24). -/
  faults : FaultSet
  /-- The CPU's sleep notification (R25). -/
  sleeping : Bool
  /-- The trigger whose callback is running, with the cycle its entry was scheduled for (R26, R138). -/
  firing : Option (TrigId × Nat)
  /-- Nested `Publish` calls (R26). -/
  busDepth : Nat
  /-- Nested `PinDrive` propagations (R484; assumption log 6). The model's own. -/
  pinDepth : Nat
  /-- The output log (R27). -/
  out : List OutRec
  /-- The pin modules (R29). -/
  pins : Vector Pin 32
  /-- The subscription table, indexed by channel kind (R30). -/
  subs : Vector (List RecvId) 11
  t0 : Timer0
  t1 : Timer1
  t2 : Timer2
  t4 : Timer2
  t6 : Timer2
  ccp1 : Ccp
  ccp2 : Ccp
  osc : Osc
  clc1 : Clc
  clc2 : Clc
  clc3 : Clc
  clc4 : Clc
  nco : Nco
  adc : Adc
  /-- The host's channel voltages (R59). -/
  vin : Vector Rat 32
  vrefhi : Rat
  vreflo : Rat
  deriving DecidableEq, Repr

/-! ### Reset values -/

def Pin.unwired : Pin := { src := none, ctl := none, sinks := [], ext := .Z, lvl := .Z }

def Timer0.atReset : Timer0 :=
  { con := 0x00, flag := false, run := false, anchor := 0, held := 0x00, pre := ⟨1, 2⟩ }

def Timer1.atReset : Timer1 :=
  { con := 0x00, gcon := 0x00, flag := false, run := false, anchor := 0, held := 0x0000, pre := ⟨0, 1⟩,
    gateTff := false, gateLvl := .L, cmp := [], breakValue := none, breakKind := {} }

def Timer2.atReset : Timer2 :=
  { pr := 0xFF, con := 0x00, hlt := 0x00, clkcon := 0x00, rst := 0x00, flag := false, run := false, anchor := 0,
    held := 0x00, post := ⟨0, 1⟩, ers := .L, armed := false, breakValue := none, breakMask := 0x00, pwm := [],
    ratio := ⟨1, 1⟩ }

def Ccp.atReset : Ccp :=
  { rl := 0x00, rh := 0x00, con := 0x00, tsel := 0x00, pwmcon := 0x00, as := 0x00, pol := 0x00, flag := false,
    out := Vector.replicate 4 .L, capPre := ⟨0, 1⟩, dcLatched := 0, dutyArmed := false, shutdown := false,
    dbTarget := none, mod := .L, pin := Vector.replicate 4 .Z, asLvl := .L }

/-- The oscillator before its derivation has run: OSCCON = 0x38, `f_eff = 0` (R51, R470). -/
def Osc.atReset : Osc :=
  { con := 0x38, tune := 0x00, state := .intRc, settled := false, target := none, fInt := 0, fEff := 0 }

def Clc.atReset : Clc :=
  { con := 0x00, pol := 0x00, sel := Vector.replicate 4 0x00, gls := Vector.replicate 4 0x00, flag := false,
    inp := Vector.replicate 4 .L, q := false, g1Prev := false, out := false }

/-- The reset values of R57 and R58. The spec gives `nco_anchor` none: 0. DESIGN CHOICE (assumption log 29) -/
def Nco.atReset : Nco :=
  { acc := 0, inc := 0x0001, con := 0x00, clk := 0x00, flag := false, anchor := 0, out := false, pulseLeft := 0,
    lvl := false }

def Adc.atReset : Adc :=
  { resl := 0x00, resh := 0x00, con0 := 0x00, con1 := 0x00, acq := 0x00, flag := false, state := .idle, vin := 0,
    vhi := 0, vlo := 0 }

/-- "empty wiring ... and an empty output log, with `vin[ch] = vrefhi = vreflo = 0`" (R472), every register and hidden
variable at its reset value (R470), before the oscillator's derivation. -/
def State.blank (cfg : Cfg) : State where
  cfg := cfg
  cmds := []
  now := 0
  seq := 0
  queue := []
  faults := {}
  sleeping := false
  firing := none
  busDepth := 0
  pinDepth := 0
  out := []
  pins := Vector.replicate 32 Pin.unwired
  subs := Vector.replicate 11 []
  t0 := Timer0.atReset
  t1 := Timer1.atReset
  t2 := Timer2.atReset
  t4 := Timer2.atReset
  t6 := Timer2.atReset
  ccp1 := Ccp.atReset
  ccp2 := Ccp.atReset
  osc := Osc.atReset
  clc1 := Clc.atReset
  clc2 := Clc.atReset
  clc3 := Clc.atReset
  clc4 := Clc.atReset
  nco := Nco.atReset
  adc := Adc.atReset
  vin := Vector.replicate 32 0
  vrefhi := 0
  vreflo := 0

/-- The block as built (R472) with the configuration `Cfg.default`: the state RESET gives from `State.blank`. The
oscillator's derivation has run (R340): internal RC at 500 kHz, its settle event queued at `INTOSC_SETTLE_CYCLES`, and
the `Freq` record of the reset in the log. Tests/Slice0.lean shows that it is the RESET command's result. -/
def State.reset : State :=
  { State.blank Cfg.default with
    seq := 1
    queue := [⟨1, 0, .oscSettle⟩]
    out := [.freq 500000 0]
    osc := { Osc.atReset with fInt := 500000, fEff := 500000 } }

end Sys2Proof.Machine
end

