-- ==== Sys2Proof/Machine/Ops.lean ====
section
/-!
DEFINITION. Machine/Ops.lean: the operations every rule is written with (00_scope.md R9): levels and bit fields, the
output log, the sticky faults, the deferred-event queue, input clocks, prescalers, and the register-bank accessors.

The block takes no traps and has no exception vectors (60_exceptions.md R443). Its one shared "exception" operation is
`raiseFault` (R446): the violating operation is skipped, the kind becomes sticky, the block goes on.
-/

namespace Sys2Proof.Machine

open Sys2Proof

/-- What a meaning answers. -/
abbrev Result := Host.Outcome State Fault Refusal

/-! ### Levels and bits -/

/-- `L'` of R179: Z reads as L. -/
def lowZ : Level → Level
  | .H => .H
  | .L => .L
  | .Z => .L

def isHigh (l : Level) : Bool := l == .H

def levelOfBool (b : Bool) : Level := if b then .H else .L

/-- A level value on the bus: "value 0 = L, any other value = H" (R185). -/
def levelOfValue (v : Nat) : Level := if v = 0 then .L else .H

/-- The 0/1 reading of a level, Z as 0 (R49, R283). -/
def bitOf (l : Level) : Nat := if isHigh l then 1 else 0

def natOfBool (b : Bool) : Nat := if b then 1 else 0

/-- A rising change (R179). -/
def isRising (old new : Level) : Bool := lowZ old == .L && lowZ new == .H

/-- A falling change (R179). -/
def isFalling (old new : Level) : Bool := lowZ old == .H && lowZ new == .L

/-- `v[i]` (R8). -/
def bit (b : Byte) (i : Nat) : Bool := b.getLsbD i

/-- `v[lo+w-1 : lo]` (R8). -/
def field (b : Byte) (lo w : Nat) : Nat := b.toNat / 2 ^ lo % 2 ^ w

/-- `b` with bit `i` set to `v`. -/
def setBit (b : Byte) (i : Nat) (v : Bool) : Byte :=
  if v then b ||| (1#8 <<< i) else b &&& ~~~(1#8 <<< i)

/-- The write-mask merge `(old & ~wmask) | (v & wmask)` (R160). -/
def maskMerge (mask old v : Byte) : Byte := (old &&& ~~~mask) ||| (v &&& mask)

/-- `{hi, lo}` (R8). -/
def pairOf (hi lo : Byte) : Half := hi ++ lo

def lowByte (v : Half) : Byte := v.extractLsb' 0 8
def highByte (v : Half) : Byte := v.extractLsb' 8 8

/-! ### Time -/

/-- `now` as a number. -/
def State.cycle (s : State) : Nat := s.now.toNat

/-- `c`, the time of effect: "the scheduled cycle inside a callback, `now` inside a host command" (R138; 43_ccp.md). -/
def State.effectCycle (s : State) : Nat :=
  match s.firing with
  | some (_, c) => c
  | none => s.cycle

/-- `tin(n) = floor(n · num / den)` (R202). -/
def tin (k : Ratio) (n : Nat) : Int := ((n * k.num / k.den : Nat) : Int)

/-- `CycleOf(X) = ceil(X · den / num)`, the first cycle at which at least `X` input clocks have elapsed (R202). -/
def cycleOf (k : Ratio) (x : Rat) : Int := (x * (k.den : Rat) / (k.num : Rat)).ceil

/-- `K = 1`, Fosc/4 (R202). -/
def ratioFosc4 : Ratio := ⟨1, 1⟩

/-- `K = 4`, Fosc (R202). -/
def ratioFosc : Ratio := ⟨4, 1⟩

def ratioOfRat (r : Rat) : Ratio := ⟨r.num.toNat, r.den⟩

/-! ### Log and faults -/

/-- `emit Out(x)` (R9, R27): the log is appended to, "never edited". -/
def emit (r : OutRec) (s : State) : State := { s with out := s.out ++ [r] }

def FaultSet.add (f : FaultSet) : FaultKind → FaultSet
  | .schedDouble => { f with schedDouble := true }
  | .cycleWrap => { f with cycleWrap := true }
  | .illegalCmd => { f with illegalCmd := true }
  | .badReg => { f with badReg := true }
  | .unmodelled => { f with unmodelled := true }
  | .busDepth => { f with busDepth := true }

def FaultSet.has (f : FaultSet) : FaultKind → Bool
  | .schedDouble => f.schedDouble
  | .cycleWrap => f.cycleWrap
  | .illegalCmd => f.illegalCmd
  | .badReg => f.badReg
  | .unmodelled => f.unmodelled
  | .busDepth => f.busDepth

/-- Register FAULT: "bit j is 1 when fault kind j ... is in `faults`", bits 6 and 7 read 0 (R62, R446). -/
def FaultSet.toByte (f : FaultSet) : Byte :=
  BitVec.ofNat 8 (natOfBool f.schedDouble + 2 * natOfBool f.cycleWrap + 4 * natOfBool f.illegalCmd +
    8 * natOfBool f.badReg + 16 * natOfBool f.unmodelled + 32 * natOfBool f.busDepth)

/-- `raise Fault(kind)` (R446): "the kind is added to the sticky set `faults`" and execution goes on. -/
def raiseFault (k : FaultKind) (s : State) : State := { s with faults := s.faults.add k }

/-! ### The deferred-event queue -/

/-- `(cycle, ins)` order (R22). -/
def Event.before (a b : Event) : Bool := a.cycle < b.cycle || (a.cycle == b.cycle && a.ins < b.ins)

/-- The queue with an entry put at its place in `(cycle, ins)` order (R22). -/
def insertEvent (e : Event) : List Event → List Event
  | [] => [e]
  | x :: xs => if e.before x then e :: x :: xs else x :: insertEvent e xs

/-- `pending[t]` (R23): the queue's entry for `t`. -/
def State.pending (s : State) (t : TrigId) : Option (Nat × Nat) :=
  (s.queue.find? (fun e => e.trig == t)).map (fun e => (e.cycle, e.ins))

/-- `Cancel(t)` (R132): "cancelling a trigger with no pending event is a no-op". -/
def cancel (t : TrigId) (s : State) : State := { s with queue := s.queue.filter (fun e => e.trig != t) }

/-- The entry of R131: it takes the current `seq`, which is then incremented (R21). -/
def enqueue (t : TrigId) (c : Nat) (s : State) : State :=
  { s with queue := insertEvent ⟨c, s.seq, t⟩ s.queue, seq := s.seq + 1 }

/-- `Schedule(t, c)` (R131): a trigger with a pending event raises SCHED_DOUBLE and changes nothing else. -/
def schedule (t : TrigId) (c : Nat) (s : State) : State :=
  if (s.pending t).isSome then raiseFault .schedDouble s else enqueue t c s

/-- `Reschedule(t, c)` (R133): "Cancel(t); Schedule(t, c)" as one step. -/
def reschedule (t : TrigId) (c : Nat) (s : State) : State := schedule t c (cancel t s)

/-! ### Prescalers -/

/-- `PreStep(cnt, div)` (R200). -/
def preStep (p : Prescaler) : Prescaler × Bool :=
  if p.cnt = 0 then ({ p with cnt := p.div - 1 }, true) else ({ p with cnt := p.cnt - 1 }, false)

/-- "Setting a divisor ... loads `cnt <- div - 1`" (R200). -/
def preLoad (d : Nat) : Prescaler := ⟨d - 1, d⟩

/-- The count reloaded and the divisor kept. -/
def preReload (p : Prescaler) : Prescaler := { p with cnt := p.div - 1 }

/-! ### Register banks -/

/-- Timer2-family instance `x`. -/
def State.tm (s : State) : T2Id → Timer2
  | .t2 => s.t2
  | .t4 => s.t4
  | .t6 => s.t6

def State.setTm (s : State) (x : T2Id) (t : Timer2) : State :=
  match x with
  | .t2 => { s with t2 := t }
  | .t4 => { s with t4 := t }
  | .t6 => { s with t6 := t }

/-- CCP unit `i`. -/
def State.ccp (s : State) : CcpId → Ccp
  | .ccp1 => s.ccp1
  | .ccp2 => s.ccp2

def State.setCcp (s : State) (i : CcpId) (u : Ccp) : State :=
  match i with
  | .ccp1 => { s with ccp1 := u }
  | .ccp2 => { s with ccp2 := u }

/-- CLC cell `n`. -/
def State.clc (s : State) : ClcId → Clc
  | .clc1 => s.clc1
  | .clc2 => s.clc2
  | .clc3 => s.clc3
  | .clc4 => s.clc4

def State.setClc (s : State) (n : ClcId) (c : Clc) : State :=
  match n with
  | .clc1 => { s with clc1 := c }
  | .clc2 => { s with clc2 := c }
  | .clc3 => { s with clc3 := c }
  | .clc4 => { s with clc4 := c }

def State.setPin (s : State) (p : PinIx) (m : Pin) : State := { s with pins := s.pins.set p m }

/-- The place of a channel kind in `subs`. -/
def kindIx (k : ChanKind) : Fin 11 :=
  match k with
  | .t0Ovf => 0 | .t1Ovf => 1 | .t2Match => 2 | .clcOut => 3 | .pwmEdge => 4 | .cmpEdge => 5 | .zcdEdge => 6
  | .angPulse => 7 | .freq => 8 | .ncoOut => 9 | .adcDone => 10

/-- `subs[k]` (R30). -/
def State.subsOf (s : State) (k : ChanKind) : List RecvId := s.subs[kindIx k]

def State.setSubs (s : State) (k : ChanKind) (l : List RecvId) : State := { s with subs := s.subs.set (kindIx k) l }

/-- The pins of the block, `0 .. N_PIN - 1`, ascending (R7). -/
def State.allPins (s : State) : List PinIx := (List.finRange 32).filter (fun p => decide (p.val < s.cfg.nPin))

/-- A command's effect on the pin it names: "a pin index `≥ N_PIN`" is illegal and changes nothing but the fault record
(R105). -/
def onPin (p : PinIx) (s : State) (t : State) : Result :=
  .next (if p.val < s.cfg.nPin then t else raiseFault .illegalCmd s)

end Sys2Proof.Machine
end

