-- ==== Sys2Proof/Machine/Flags.lean ====
section
/-!
DEFINITION. Machine/Flags.lean: the interrupt flags (10_state.md R64) and the requests the block raises
(60_exceptions.md R440, R441). The block has no arithmetic condition codes (R64).
-/

namespace Sys2Proof.Machine

open Sys2Proof

/-- The stored value of an interrupt flag. -/
def State.flag (s : State) : Flag → Bool
  | .tmr0 => s.t0.flag
  | .tmr1 => s.t1.flag
  | .tmrx x => (s.tm x).flag
  | .ccp i => (s.ccp i).flag
  | .clc n => (s.clc n).flag
  | .nco => s.nco.flag
  | .adc => s.adc.flag

/-- A flag set or cleared, without a request. -/
def State.setFlag (s : State) (f : Flag) (v : Bool) : State :=
  match f with
  | .tmr0 => { s with t0 := { s.t0 with flag := v } }
  | .tmr1 => { s with t1 := { s.t1 with flag := v } }
  | .tmrx x => s.setTm x { s.tm x with flag := v }
  | .ccp i => s.setCcp i { s.ccp i with flag := v }
  | .clc n => s.setClc n { s.clc n with flag := v }
  | .nco => { s with nco := { s.nco with flag := v } }
  | .adc => { s with adc := { s.adc with flag := v } }

/-- `RaiseIF(f)` (R440): the flag is set and `Out(Irq(f, now))` is emitted "on every raise, also when the flag is already
1". -/
def raiseIF (f : Flag) (s : State) : State := emit (.irq f s.cycle) (s.setFlag f true)

/-- PUT of a flag register (R441): bit 0 is written, and "writing 1 sets it without emitting `Irq`". -/
def putFlag (f : Flag) (new : Byte) (s : State) : State := s.setFlag f (bit new 0)

end Sys2Proof.Machine
end

