-- ==== Sys2Proof/Machine/Pins.lean ====
section
/-!
DEFINITION. Machine/Pins.lean: the pin and event-bus layer (41_pins_bus.md). `PinDrive` and `Publish` are requests
(`Signal`) that a unit hands to its `Wire`; Machine/Signals.lean ties the wire to the units that the two notify.
-/

namespace Sys2Proof.Machine

open Sys2Proof

/-- `PinDrive(p)` (R175) or `Publish(k, s, v)` (R182). -/
inductive Signal where
  | drive (p : PinIx)
  | publish (k : ChanKind) (sub : Nat) (v : Nat)
  deriving DecidableEq, Repr

/-- How a unit has a signal carried out: a synchronous call (R91). -/
abbrev Wire := Signal → State → State

/-! ### Sources and controls -/

/-- The enable bit of the NCO (R58). -/
def ncoEn (n : Nco) : Bool := bit n.con 7

/-- The NCO's pin-side level, "`nco_out XOR POL` (L while EN = 0)" (R404). -/
def ncoPinLevel (n : Nco) : Bool := ncoEn n && (n.out != bit n.con 4)

/-- CLC fields EN and OE (R55). -/
def clcEn (c : Clc) : Bool := bit c.con 7
def clcOe (c : Clc) : Bool := bit c.con 6

/-- `srcval(s)`: the current level of a peripheral output (R29, R115, R283, R377, R404). -/
def srcLevel (s : State) : SrcId → Level
  | .ccp1 k => s.ccp1.pin[k]
  | .ccp2A => s.ccp2.pin[0]
  | .clc n => levelOfBool (s.clc n).out
  | .nco => levelOfBool (ncoPinLevel s.nco)

/-- `ctlval(c) = OUT` (R115). -/
def ctlOut (s : State) : CtlId → Bool
  | .alwaysOut => true
  | .alwaysIn => false
  | .ccp1 k => s.ccp1.pin[k] != .Z
  | .ccp2A => s.ccp2.pin[0] != .Z
  | .clc n => clcEn (s.clc n) && clcOe (s.clc n)
  | .nco => ncoEn s.nco

/-- What a pin's own source and control drive: "`srcval(s)`" when both are installed and the control says OUT, else Z
(R175). -/
def pinOwnDrive (s : State) (m : Pin) : Level :=
  match m.src, m.ctl with
  | some src, some ctl => if ctlOut s ctl then srcLevel s src else .Z
  | _, _ => .Z

/-- The observable level that R175 computes: "if drive ≠ Z then drive else ext[p]". -/
def pinObservable (s : State) (m : Pin) : Level :=
  let drv := pinOwnDrive s m
  if drv = .Z then m.ext else drv

/-- `PinDrive(p)` (R175) with `notify` for `SinkNotify`. A propagation nested `BUS_DEPTH_MAX` deep is skipped with
`Fault(BUS_DEPTH)`: "pin and bus recursion is bounded by `BUS_DEPTH_MAX`" (R484; assumption log 6). DEDUCED -/
def pinDriveWith (notify : SinkId → PinIx → Level → Level → State → State) (p : PinIx) (s : State) : State :=
  let m := s.pins[p]
  let new := pinObservable s m
  if new = m.lvl then s
  else if s.cfg.busDepthMax ≤ s.pinDepth then raiseFault .busDepth s
  else
    let s1 := emit (.pin p new s.cycle) (s.setPin p { m with lvl := new })
    let s2 := m.sinks.foldl (fun s k => notify k p m.lvl new s) { s1 with pinDepth := s1.pinDepth + 1 }
    { s2 with pinDepth := s2.pinDepth - 1 }

/-- `Publish(k, s, v)` (R182) with `deliver` for `Deliver`: the receivers attached at entry, in attach order, less those
"detached meanwhile". -/
def publishWith (deliver : RecvId → ChanKind → Nat → Nat → State → State) (k : ChanKind) (sub v : Nat) (s : State) :
    State :=
  if s.cfg.busDepthMax ≤ s.busDepth then raiseFault .busDepth s
  else
    let s2 := (s.subsOf k).foldl (fun s r => if (s.subsOf k).contains r then deliver r k sub v s else s)
      { s with busDepth := s.busDepth + 1 }
    { s2 with busDepth := s2.busDepth - 1 }

/-- "calls `PinDrive(p)` for every pin `p`" that `pred` picks, "in ascending pin order" (R178). -/
def driveWhere (w : Wire) (pred : Pin → Bool) (s : State) : State :=
  s.allPins.foldl (fun s p => if pred s.pins[p] then w (.drive p) s else s) s

/-- `PinDrive` of every pin whose source is `src` (R178). -/
def driveSource (w : Wire) (src : SrcId) (s : State) : State := driveWhere w (fun m => m.src == some src) s

/-- `PinDrive` of every pin whose control is `ctl` (R178). -/
def driveControl (w : Wire) (ctl : CtlId) (s : State) : State := driveWhere w (fun m => m.ctl == some ctl) s

/-! ### Subscriptions (R116, R186) -/

/-- The channel kinds that "carry events, with no level" (R185). -/
def isEventKind : ChanKind → Bool
  | .t0Ovf | .t1Ovf | .t2Match | .angPulse | .freq | .adcDone => true
  | .clcOut | .pwmEdge | .cmpEdge | .zcdEdge | .ncoOut => false

/-- The current level of a source when a consumer gains it: "the pin's level (Z as L), L for a bus source until a value
is delivered, L for `None`" (R371; R224, R237, R310). A `Refused` entry reads L: of a CLC input R371 says so, of the other
consumers it is DEDUCED (assumption log 42). -/
def gainedLevel (s : State) : SigDesc → Level
  | .pin p => lowZ s.pins[p].lvl
  | .bus _ _ => .L
  | .low => .L
  | .refused => .L

/-- A list holding `x` once, as the last entry if it was not there, or not at all. -/
def holdOnce {α : Type} [BEq α] (want : Bool) (x : α) (l : List α) : List α :=
  if want then (if l.contains x then l else l ++ [x]) else l.filter (fun y => y != x)

/-- Makes the sink `k` and the receiver `r` of one consumer input be held exactly where `want` says: on the pin of a
`Pin` source, on the kind of a `Bus` source, nowhere else (R186: "adds and removes sinks and attachments to match"; a
sink or attachment that stays keeps its place, assumption log 11). -/
def resubscribe (k : SinkId) (r : RecvId) (want : Option SigDesc) (s : State) : State :=
  let wantPin : PinIx → Bool := fun p => want == some (.pin p)
  let wantKind : Fin 11 → Bool := fun j =>
    match want with
    | some (.bus kind _) => kindIx kind == j
    | _ => false
  { s with
    pins := Vector.ofFn (fun p => let m := s.pins[p]; { m with sinks := holdOnce (wantPin p) k m.sinks })
    subs := Vector.ofFn (fun j => holdOnce (wantKind j) r s.subs[j]) }

/-- "selecting it while the consumer is enabled raises `Fault(UNMODELLED)`" (R116). -/
def raiseIfRefused (want : Option SigDesc) (s : State) : State :=
  if want = some .refused then raiseFault .unmodelled s else s

/-- `SinkNotify` for one consumer input "ignores a notification from a pin its configuration does not select" (R179). -/
def selectsPin (want : Option SigDesc) (p : PinIx) : Bool := want == some (.pin p)

/-- "A peripheral receiver acts only when `(k, s)` equals the `Bus(k, s)` descriptor its configuration selects" (R184). -/
def selectsBus (want : Option SigDesc) (k : ChanKind) (sub : Nat) : Bool := want == some (.bus k sub)

end Sys2Proof.Machine
end

