-- ==== Sys2Proof/Machine/Nco.lean ====
section
/-!
DEFINITION. Machine/Nco.lean: the NCO (46_nco_angular_adc.md R400 to R405; fields in 10_state.md R57, R58).
-/

namespace Sys2Proof.Machine

open Sys2Proof

def ncoPfm (n : Nco) : Bool := bit n.con 0
def ncoCks (n : Nco) : Nat := field n.clk 0 2
def ncoPws (n : Nco) : Nat := field n.clk 5 3

/-- CKS in 0, 1: an internal clock (R400). -/
def ncoInternal (n : Nco) : Bool := ncoCks n < 2

/-- `nco_run = (EN = 1 ∧ CKS ∈ {0, 1} ∧ ¬frozen)` (R400). -/
def ncoRun (s : State) : Bool := ncoEn s.nco && ncoInternal s.nco && !s.sleeping

/-- `K = 1` for CKS = 0, `K = 4` for CKS = 1 (R400). -/
def ncoRatio (n : Nco) : Ratio := if ncoCks n = 1 then ratioFosc else ratioFosc4

/-- `(acc + inc · (tin(c) - nco_anchor)) mod 2^20` (R400, R403). -/
def accAt (s : State) (c : Nat) : BitVec 20 :=
  BitVec.ofInt 20 ((s.nco.acc.toNat : Int) + (s.nco.inc.toNat : Int) * (tin (ncoRatio s.nco) c - s.nco.anchor))

/-- `AccNow()` (R400). -/
def accNow (s : State) : BitVec 20 := if ncoRun s then accAt s s.cycle else s.nco.acc

/-- `NcoSync()` (R402). -/
def ncoSync (s : State) : State :=
  if ncoRun s then
    { s with nco := { s.nco with acc := accNow s, anchor := tin (ncoRatio s.nco) s.cycle } }
  else s

/-- `NcoRecompute()` (R402). -/
def ncoRecompute (s : State) : State :=
  if ncoRun s && s.nco.inc != 0 then
    let left : Int := 2 ^ 20 - (s.nco.acc.toNat : Int)
    let clocks : Int := -((-left) / (s.nco.inc.toNat : Int))
    reschedule .ncoOvf (cycleOf (ncoRatio s.nco) ((s.nco.anchor + clocks : Int) : Rat)).toNat s
  else cancel .ncoOvf s

/-- `NcoOutput()` (R404): "on a change, `PinDrive` every pin whose source is the NCO output ... and `Publish(NCO_OUT, 0,
new level)`". -/
def ncoOutput (w : Wire) (s : State) : State :=
  let new := ncoPinLevel s.nco
  if new = s.nco.lvl then s
  else
    let s1 := driveSource w .nco { s with nco := { s.nco with lvl := new } }
    w (.publish .ncoOut 0 (natOfBool new)) s1

/-- `NcoOverflow(c)` (R403). -/
def ncoOverflow (w : Wire) (c : Nat) (s : State) : State :=
  let s1 := raiseIF .nco s
  let s2 :=
    if ncoPfm s1.nco then
      let s3 := { s1 with nco := { s1.nco with out := true } }
      if ncoInternal s3.nco then
        let k := ncoRatio s3.nco
        reschedule .ncoPulse (cycleOf k ((tin k c + 2 ^ ncoPws s3.nco : Int) : Rat)).toNat s3
      else { s3 with nco := { s3.nco with pulseLeft := 2 ^ ncoPws s3.nco } }
    else { s1 with nco := { s1.nco with out := !s1.nco.out } }
  ncoOutput w s2

/-- The callback of NCO_OVF (R403). -/
def ncoOvfCallback (w : Wire) (s : State) : State :=
  let c := s.effectCycle
  let s1 := { s with nco := { s.nco with acc := accAt s c, anchor := tin (ncoRatio s.nco) c } }
  ncoRecompute (ncoOverflow w c s1)

/-- The callback of NCO_PULSE (R404). -/
def ncoPulseCallback (w : Wire) (s : State) : State :=
  if ncoPfm s.nco then ncoOutput w { s with nco := { s.nco with out := false } } else s

/-- The end of an edge-clocked pulse (R405). -/
def ncoPulseStep (w : Wire) (s : State) : State :=
  if s.nco.pulseLeft = 0 then s
  else
    let s1 := { s with nco := { s.nco with pulseLeft := s.nco.pulseLeft - 1 } }
    if s1.nco.pulseLeft = 0 then ncoOutput w { s1 with nco := { s1.nco with out := false } } else s1

/-- `NcoClockEdge()` (R405), for a clock whose CKS code is `cks`: 3 for the NCOCLK pin, 2 for CLC1's output. -/
def ncoClockEdge (w : Wire) (cks : Nat) (s : State) : State :=
  if ncoEn s.nco && ncoCks s.nco == cks then
    let s1 := ncoPulseStep w s
    let sum := s1.nco.acc.toNat + s1.nco.inc.toNat
    let s2 := { s1 with nco := { s1.nco with acc := BitVec.ofNat 20 sum } }
    if 2 ^ 20 ≤ sum then ncoOverflow w s2.cycle s2 else s2
  else s

/-- The NCOCLK sink (R405). -/
def ncoClkSink (w : Wire) (old new : Level) (s : State) : State :=
  if isRising old new then ncoClockEdge w 3 s else s

/-- "if EN changed to 0: `nco_out <- false`; `Cancel(NCO_PULSE)`; `nco_pulse_left <- 0`" (R401); `oldEn` is EN before the
write. -/
def ncoStop (oldEn : Bool) (s : State) : State :=
  if oldEn && !ncoEn s.nco then cancel .ncoPulse { s with nco := { s.nco with out := false, pulseLeft := 0 } } else s

/-- "if `nco_run'`: `nco_anchor <- tin'(now)`" (R401, R456). -/
def ncoReanchor (s : State) : State :=
  if ncoRun s then { s with nco := { s.nco with anchor := tin (ncoRatio s.nco) s.cycle } } else s

/-- The NCO after the store of a register byte, its stop and its re-anchoring (R401). -/
def ncoStored (store : Nco → Nco) (s : State) : State :=
  let s1 := ncoSync s
  ncoReanchor (ncoStop (ncoEn s1.nco) { s1 with nco := store s1.nco })

/-- A PUT of an NCO register (R401); `store` puts the byte in its place. -/
def writeNco (w : Wire) (store : Nco → Nco) (s : State) : State :=
  let s1 := ncoStored store s
  let s2 := ncoOutput w (ncoRecompute s1)
  if ncoEn s1.nco = ncoEn s.nco then s2 else driveControl w .nco s2

/-- The accumulator and increment with one byte replaced (R57). -/
def storeAccl (v : Byte) (n : Nco) : Nco := { n with acc := (n.acc.extractLsb' 8 12 ++ v : BitVec (12 + 8)) }
def storeAcch (v : Byte) (n : Nco) : Nco :=
  { n with acc := (n.acc.extractLsb' 16 4 ++ v ++ n.acc.extractLsb' 0 8 : BitVec (4 + 8 + 8)) }
def storeAccu (v : Byte) (n : Nco) : Nco :=
  { n with acc := (v.extractLsb' 0 4 ++ n.acc.extractLsb' 0 16 : BitVec (4 + 16)) }
def storeIncl (v : Byte) (n : Nco) : Nco := { n with inc := pairOf (highByte n.inc) v }
def storeInch (v : Byte) (n : Nco) : Nco := { n with inc := pairOf v (lowByte n.inc) }
/-- NCOCON keeps its implemented bits but OUT, which is read-only (R58). -/
def storeNcocon (v : Byte) (n : Nco) : Nco := { n with con := v &&& 0x91 }
def storeNcoclk (v : Byte) (n : Nco) : Nco := { n with clk := v }

end Sys2Proof.Machine
end

