-- ==== Sys2Proof/Machine/Clc.lean ====
section
/-!
DEFINITION. Machine/Clc.lean: the configurable logic cells (45_clc.md; fields in 10_state.md R55, R56). Inputs and gates
are numbered from 0.
-/

namespace Sys2Proof.Machine

open Sys2Proof

def clcMode (c : Clc) : Nat := field c.con 0 3
def clcIntp (c : Clc) : Bool := bit c.con 4
def clcIntn (c : Clc) : Bool := bit c.con 3
def clcPolOut (c : Clc) : Bool := bit c.pol 7

/-- The enable bits of input `y` in a gate's select register: true, and complemented (R56). -/
def glsTrue (g : Byte) (y : Fin 4) : Bool := bit g (2 * y + 1)
def glsComp (g : Byte) (y : Fin 4) : Bool := bit g (2 * y)

/-! ### Inputs (R371, R372) -/

/-- Input `y` is in use: "`EN = 1` and some gate `k` has either enable bit of input `y` set" (R371). -/
def clcInUse (c : Clc) (y : Fin 4) : Bool :=
  clcEn c && (List.finRange 4).any (fun k => glsTrue c.gls[k] y || glsComp c.gls[k] y)

/-- `CLC_INPUT_TABLE[n][DyS]` (R371). -/
def clcSource (cfg : Cfg) (n : ClcId) (c : Clc) (y : Fin 4) : SigDesc :=
  (cfg.clcInputTable.getD n.idx []).getD (field c.sel[y] 0 6) .low

/-- The source that input `y` holds, `none` when it is not in use (R371). -/
def clcWant (cfg : Cfg) (n : ClcId) (c : Clc) (y : Fin 4) : Option SigDesc :=
  if clcInUse c y then some (clcSource cfg n c y) else none

/-- The subscription of input `y` recomputed; `old` is the cell before the write. "A newly held input takes its current
level"; a `Refused` source raises UNMODELLED "when it comes into use and reads L" (R371). -/
def clcResubscribeInput (n : ClcId) (old : Clc) (s : State) (y : Fin 4) : State :=
  let want := clcWant s.cfg n (s.clc n) y
  let s1 := resubscribe (.clcIn n y) (.clcIn n y) want s
  if want = clcWant s.cfg n old y then s1
  else match want with
    | some d =>
      let s2 := s1.setClc n { s1.clc n with inp := (s1.clc n).inp.set y (gainedLevel s1 d) }
      raiseIfRefused want s2
    | none => s1

/-- The cell's sinks and attachments "recomputed from scratch ... in ascending `y`" (R371). -/
def clcResubscribe (n : ClcId) (old : Clc) (s : State) : State :=
  (List.finRange 4).foldl (clcResubscribeInput n old) s

/-! ### Evaluation (R374 to R376) -/

/-- `g_k` (R374). -/
def gateValue (c : Clc) (k : Fin 4) : Bool :=
  let g := c.gls[k]
  let any := (List.finRange 4).any (fun y =>
    (glsTrue g y && isHigh c.inp[y]) || (glsComp g y && !isHigh c.inp[y]))
  any != bit c.pol k

/-- The cell functions (R375): the result `f` and the new `q`, from the four gates, gate 1's rising edge and the old
`q`. -/
def cellFunction (mode : Nat) (g1 g2 g3 g4 rise q : Bool) : Bool × Bool :=
  match mode with
  | 0 => ((g1 && g2) || (g3 && g4), q)
  | 1 => ((g1 || g2) != (g3 || g4), q)
  | 2 => (g1 && g2 && g3 && g4, q)
  | 3 =>
    let q' := if g1 || g2 then true else if g3 || g4 then false else q
    (q', q')
  | 4 =>
    let q' := if g3 then false else if g4 then true else if rise then g2 else q
    (q', q')
  | 5 =>
    let q' := if g3 then false else if rise then g2 && g4 else q
    (q', q')
  | 6 =>
    let q' :=
      if g3 then false
      else if rise then (if g2 && !g4 then true else if !g2 && g4 then false else if g2 && g4 then !q else q)
      else q
    (q', q')
  | _ =>
    let q' := if g3 then false else if g4 then true else if g1 then g2 else q
    (q', q')

/-- The cell's output and its element after an evaluation (R376). -/
def clcCompute (c : Clc) : Bool × Clc :=
  if clcEn c then
    let g1 := gateValue c 0
    let r := cellFunction (clcMode c) g1 (gateValue c 1) (gateValue c 2) (gateValue c 3) (g1 && !c.g1Prev) c.q
    (r.1 != clcPolOut c, { c with q := r.2, g1Prev := g1 })
  else (false, c)

/-- `Evaluate(n)` (R376). -/
def clcEvaluate (w : Wire) (n : ClcId) (s : State) : State :=
  let (new, c) := clcCompute (s.clc n)
  let s1 := s.setClc n c
  if new = c.out then s1
  else
    let s2 := driveSource w (.clc n) (s1.setClc n { c with out := new })
    let s3 := if (new && clcIntp c) || (!new && clcIntn c) then raiseIF (.clc n) s2 else s2
    let s4 := w (.publish .clcOut (n.idx + 1) (natOfBool new)) s3
    if n == .clc1 && new then ncoClockEdge w 2 s4 else s4

/-- A level taken by input `y`, and the evaluation that follows (R372). -/
def clcInput (w : Wire) (n : ClcId) (y : Fin 4) (l : Level) (s : State) : State :=
  clcEvaluate w n (s.setClc n { s.clc n with inp := (s.clc n).inp.set y l })

/-- The CLC input sink (R372). -/
def clcSink (w : Wire) (n : ClcId) (y : Fin 4) (p : PinIx) (new : Level) (s : State) : State :=
  if selectsPin (clcWant s.cfg n (s.clc n) y) p then clcInput w n y (lowZ new) s else s

/-- A delivery to a CLC input (R372): an event source is a pulse. -/
def clcRecv (w : Wire) (n : ClcId) (y : Fin 4) (k : ChanKind) (sub v : Nat) (s : State) : State :=
  if selectsBus (clcWant s.cfg n (s.clc n) y) k sub then
    if isEventKind k then clcInput w n y .L (clcInput w n y .H s) else clcInput w n y (levelOfValue v) s
  else s

/-! ### Register writes (R370) -/

/-- The cell drives its pin: `EN = 1 ∧ OE = 1` (R377). -/
def clcDrives (c : Clc) : Bool := clcEn c && clcOe c

/-- A PUT of a CLCn register (R370); `store` puts the byte in its place. -/
def writeClc (w : Wire) (n : ClcId) (store : Clc → Clc) (s : State) : State :=
  let old := s.clc n
  let c := store old
  let c1 := if !clcEn c && clcEn old then { c with q := false, g1Prev := false } else c
  let s1 := clcResubscribe n old (s.setClc n c1)
  let s2 := if clcDrives c = clcDrives old then s1 else driveControl w (.clc n) s1
  clcEvaluate w n s2

/-- CLCnCON keeps its bits but OUT, which is read-only (R55). -/
def storeClccon (v : Byte) (c : Clc) : Clc := { c with con := v &&& 0xDF }
def storeClcpol (v : Byte) (c : Clc) : Clc := { c with pol := v }
def storeClcsel (y : Fin 4) (v : Byte) (c : Clc) : Clc := { c with sel := c.sel.set y v }
def storeClcgls (k : Fin 4) (v : Byte) (c : Clc) : Clc := { c with gls := c.gls.set k v }

end Sys2Proof.Machine
end

