-- ==== Sys2Proof/Machine/Timer0.lean ====
section
/-!
DEFINITION. Machine/Timer0.lean: Timer0 (42_timers.md R210 to R216; fields of T0CON in 10_state.md R33).
-/

namespace Sys2Proof.Machine

open Sys2Proof

def t0En (con : Byte) : Bool := bit con 7
def t0Cs (con : Byte) : Bool := bit con 5
def t0Se (con : Byte) : Bool := bit con 4

/-- `P0 = (PSA = 1) ? 1 : 2^(PS+1)` (R210). -/
def t0Div (con : Byte) : Nat := if bit con 3 then 1 else 2 ^ (field con 0 3 + 1)

/-- `t0_run = (T0EN = 1 ∧ T0CS = 0 ∧ ¬frozen)` (R210). -/
def t0RunCond (s : State) : Bool := t0En s.t0.con && !t0Cs s.t0.con && !s.sleeping

/-- `floor((now - t0_anchor) / P0)`: counts since the anchor (R211). -/
def t0Abs (s : State) : Int := ((s.cycle : Int) - s.t0.anchor) / (t0Div s.t0.con : Int)

/-- `Read(TMR0)` (R212). -/
def t0Count (s : State) : Byte := if s.t0.run then BitVec.ofInt 8 (t0Abs s) else s.t0.held

/-- `T0NextOvf()` (R211). -/
def t0NextOvf (s : State) : Int :=
  let m := (t0Abs s / 256 + 1) * 256
  s.t0.anchor + m * (t0Div s.t0.con : Int)

/-- The anchor that makes the running count read `v` at `now`, and its overflow event (R213, R214, R456). -/
def t0Start (v : Byte) (s : State) : State :=
  let s1 := { s with t0 := { s.t0 with run := true, anchor := (s.cycle : Int) - (v.toNat : Int) * (t0Div s.t0.con : Int) } }
  reschedule .t0Ovf (t0NextOvf s1).toNat s1

/-- "`Cancel(T0_OVF)`, `t0_held <- V`" (R214, R455). -/
def t0Stop (v : Byte) (s : State) : State :=
  cancel .t0Ovf { s with t0 := { s.t0 with run := false, held := v } }

/-- PUT TMR0 (R213). -/
def writeTmr0 (v : Byte) (s : State) : State :=
  if s.t0.run then t0Start v s
  else { s with t0 := { s.t0 with held := v, pre := preReload s.t0.pre } }

/-- PUT T0CON (R214). A write that changes T0SE alone (assumption log 39), or PS alone while PSA = 1 (log 40), takes the
pseudocode's path too, and re-anchors a running count. DEDUCED -/
def writeT0con (new : Byte) (s : State) : State :=
  let v := t0Count s
  let old := s.t0.con
  if new = old then s
  else
    let pre := if t0Div new ≠ t0Div old ∨ t0Cs new ≠ t0Cs old then preLoad (t0Div new) else s.t0.pre
    let s1 := { s with t0 := { s.t0 with con := new, pre := pre } }
    if t0RunCond s1 then t0Start v s1 else t0Stop v s1

/-- The callback of T0_OVF at cycle `c` (R215). -/
def t0OvfCallback (w : Wire) (s : State) : State :=
  let c := s.effectCycle
  let s1 := { s with t0 := { s.t0 with anchor := (c : Int) } }
  let s2 := schedule .t0Ovf (c + 256 * t0Div s1.t0.con) s1
  w (.publish .t0Ovf 0 1) (raiseIF .tmr0 s2)

/-- The T0CKI sink, edge-counting mode (R216). -/
def t0Edge (w : Wire) (old new : Level) (s : State) : State :=
  let edge := if t0Se s.t0.con then isFalling old new else isRising old new
  if t0En s.t0.con && t0Cs s.t0.con && edge then
    let (pre, tick) := preStep s.t0.pre
    let s1 := { s with t0 := { s.t0 with pre := pre } }
    if tick then
      let held := s1.t0.held + 1
      let s2 := { s1 with t0 := { s1.t0 with held := held } }
      if held = 0 then w (.publish .t0Ovf 0 1) (raiseIF .tmr0 s2) else s2
    else s1
  else s

end Sys2Proof.Machine
end

