-- ==== Sys2Proof/Machine/Timer1.lean ====
section
/-!
DEFINITION. Machine/Timer1.lean: Timer1's count, breakpoint and gate (42_timers.md R218 to R224, R227 to R229; fields in
10_state.md R36, R37). Its breakpoint callback and its clock edges notify CCP units and stand in Machine/TimerEvents.lean.
-/

namespace Sys2Proof.Machine

open Sys2Proof

def t1Cs (con : Byte) : Nat := field con 6 2
def t1On (con : Byte) : Bool := bit con 0

/-- `P1 = 2^CKPS` (R218). -/
def t1Div (con : Byte) : Nat := 2 ^ field con 4 2

/-- `K = 1` for CS = 00 and `K = 4` for CS = 01 (R218). -/
def t1Ratio (con : Byte) : Ratio := if t1Cs con = 1 then ratioFosc else ratioFosc4

/-- Timer1 takes an internal clock: CS in 00, 01 (R218). -/
def t1Internal (con : Byte) : Bool := t1Cs con < 2

/-- T1GCON.GE and GPOL (R37). -/
def t1Ge (gcon : Byte) : Bool := bit gcon 7
def t1Gpol (gcon : Byte) : Bool := bit gcon 6

/-- The gate source Timer1 holds: "while `GE = 1` ... exactly ... `T1_GATE_TABLE[GSS]`, while `GE = 0` none" (R224).
A `Refused` entry counts as selected while GE = 1. DEDUCED (assumption log 38) -/
def t1GateWant (cfg : Cfg) (gcon : Byte) : Option SigDesc :=
  if t1Ge gcon then some (cfg.t1GateTable.getD (field gcon 0 2) .low) else none

/-- `gate_level` (R227): the toggle state for an event source, else the level last taken or delivered. -/
def t1GateLevel (s : State) : Level :=
  match t1GateWant s.cfg s.t1.gcon with
  | some (.bus k _) => if isEventKind k then levelOfBool s.t1.gateTff else s.t1.gateLvl
  | _ => s.t1.gateLvl

/-- `gate_ok = (GE = 0) ∨ (gate_level = GPOL)` (R218). -/
def t1GateOk (s : State) : Bool := !t1Ge s.t1.gcon || (isHigh (t1GateLevel s) == t1Gpol s.t1.gcon)

/-- `t1_run = (ON = 1 ∧ CS ∈ {00, 01} ∧ gate_ok ∧ ¬frozen)` (R218). -/
def t1RunCond (s : State) : Bool := t1On s.t1.con && t1Internal s.t1.con && t1GateOk s && !s.sleeping

/-- Timer1 "counts edges when `ON = 1 ∧ CS ∈ {10, 11} ∧ gate_ok`" (R218). -/
def t1CountsEdges (s : State) : Bool := t1On s.t1.con && !t1Internal s.t1.con && t1GateOk s

/-- `floor((tin(now) - t1_anchor) / P1)` (R219). -/
def t1Abs (s : State) : Int := (tin (t1Ratio s.t1.con) s.cycle - s.t1.anchor) / (t1Div s.t1.con : Int)

/-- `V1`, the count (R220). -/
def t1Count (s : State) : Half := if s.t1.run then BitVec.ofInt 16 (t1Abs s) else s.t1.held

/-- The absolute count at which the compare value `v` next matches (R219). -/
def t1MatchAt (cur : Int) (v : Half) : Int :=
  let m := cur - cur % 65536 + (v.toNat : Int)
  if m ≤ cur then m + 65536 else m

/-- `T1Recompute()` (R219). -/
def t1Recompute (s : State) : State :=
  if s.t1.run then
    let cur := t1Abs s
    let roll := cur - cur % 65536 + 65536
    let best := s.t1.cmp.foldl (fun m e => min m (t1MatchAt cur e.2)) roll
    let hits : CcpId → Bool := fun i => s.t1.cmp.any (fun e => e.1 == i && t1MatchAt cur e.2 == best)
    let kinds : T1Kinds := { roll := roll == best, cmp1 := hits .ccp1, cmp2 := hits .ccp2 }
    let c := cycleOf (t1Ratio s.t1.con) ((s.t1.anchor + best * (t1Div s.t1.con : Int) : Int) : Rat)
    reschedule .t1Brk c.toNat { s with t1 := { s.t1 with breakValue := some best.toNat, breakKind := kinds } }
  else cancel .t1Brk { s with t1 := { s.t1 with breakValue := none, breakKind := {} } }

/-- `T1Update(V)` (R221). -/
def t1Update (v : Half) (s : State) : State :=
  if t1RunCond s then
    t1Recompute { s with t1 := { s.t1 with
      run := true
      anchor := tin (t1Ratio s.t1.con) s.cycle - (v.toNat : Int) * (t1Div s.t1.con : Int) } }
  else t1Recompute { s with t1 := { s.t1 with run := false, held := v } }

/-- `T1Clear()` at the calling event's cycle (R229). -/
def t1Clear (s : State) : State :=
  if s.t1.run then t1Recompute { s with t1 := { s.t1 with anchor := tin (t1Ratio s.t1.con) s.effectCycle } }
  else t1Recompute { s with t1 := { s.t1 with held := 0 } }

/-- PUT TMR1L or TMR1H (R222): the count with one byte replaced. -/
def writeTmr1 (v : Half) (s : State) : State :=
  if t1CountsEdges s then t1Update v { s with t1 := { s.t1 with pre := preReload s.t1.pre } } else t1Update v s

def writeTmr1l (new : Byte) (s : State) : State := writeTmr1 (pairOf (highByte (t1Count s)) new) s
def writeTmr1h (new : Byte) (s : State) : State := writeTmr1 (pairOf new (lowByte (t1Count s))) s

/-- PUT T1CON (R223): "if CS, CKPS and ON are unchanged return (OSCEN, SYNC_N only stored)". -/
def writeT1con (new : Byte) (s : State) : State :=
  let v := t1Count s
  let old := s.t1.con
  let s1 := { s with t1 := { s.t1 with con := new } }
  if t1Cs new = t1Cs old ∧ t1Div new = t1Div old ∧ t1On new = t1On old then s1
  else if t1Div new ≠ t1Div old ∨ t1Cs new ≠ t1Cs old then
    t1Update v { s1 with t1 := { s1.t1 with pre := preLoad (t1Div new) } }
  else t1Update v s1

/-- The level and toggle state Timer1 takes from a gate source it gains (R224; assumption log 10). -/
def t1GainGate (old want : Option SigDesc) (s : State) : State :=
  if want = old then s
  else match want with
    | some d => { s with t1 := { s.t1 with gateTff := false, gateLvl := gainedLevel s d } }
    | none => s

/-- PUT T1GCON (R224). A write of the current byte re-anchors a running count too. DEDUCED (assumption log 41) -/
def writeT1gcon (new : Byte) (s : State) : State :=
  let v := t1Count s
  let old := t1GateWant s.cfg s.t1.gcon
  let want := t1GateWant s.cfg new
  let s1 := { s with t1 := { s.t1 with gcon := new } }
  let s2 := t1GainGate old want (resubscribe .t1g .t1Gate want s1)
  t1Update v (raiseIfRefused want s2)

/-- A new gate level from the selected source: "On every such change: `V <- V1` (under the old gate), update,
`T1Update(V)`" (R227). -/
def t1GateLevelInput (l : Level) (s : State) : State :=
  if l = s.t1.gateLvl then s
  else
    let v := t1Count s
    t1Update v { s with t1 := { s.t1 with gateLvl := l } }

/-- An event of the selected gate source toggles the gate (R227). -/
def t1GateEventInput (s : State) : State :=
  let v := t1Count s
  t1Update v { s with t1 := { s.t1 with gateTff := !s.t1.gateTff } }

/-- The T1G sink (R227). -/
def t1GateSink (p : PinIx) (new : Level) (s : State) : State :=
  if selectsPin (t1GateWant s.cfg s.t1.gcon) p then t1GateLevelInput (lowZ new) s else s

/-- A delivery to T1_GATE (R227). -/
def t1GateRecv (k : ChanKind) (sub v : Nat) (s : State) : State :=
  if selectsBus (t1GateWant s.cfg s.t1.gcon) k sub then
    if isEventKind k then t1GateEventInput s else t1GateLevelInput (levelOfValue v) s
  else s

end Sys2Proof.Machine
end

