-- ==== Sys2Proof/Machine/Timer2.lean ====
section
/-!
DEFINITION. Machine/Timer2.lean: the Timer2/4/6 family: count, breakpoint, hardware-limit gate and register writes
(42_timers.md R230 to R240, R242, R245; fields in 10_state.md R40 to R42). The breakpoint callback notifies CCP units and
stands in Machine/TimerEvents.lean.
-/

namespace Sys2Proof.Machine

open Sys2Proof

def t2On (con : Byte) : Bool := bit con 7

/-- `P = 2^CKPS` (R40). -/
def t2Div (con : Byte) : Nat := 2 ^ field con 4 3

/-- OUTPS (R40); the postscale divisor is `OUTPS + 1`. -/
def t2Outps (con : Byte) : Nat := field con 0 4

/-- `M = HLT_TABLE[MODE]` (R240). -/
def t2Policy (cfg : Cfg) (hlt : Byte) : HltPolicy := cfg.hltTable.getD (field hlt 0 5) .reserved

/-- `T2_CLK_TABLE[CS]` (R42). -/
def t2Clk (cfg : Cfg) (clkcon : Byte) : T2Clk := cfg.t2ClkTable.getD (field clkcon 0 4) .openEntry

/-- The ratio `K` of a clock entry now: 1, 4, or `f_intosc / (f_eff / 4)` (R42, R202). -/
def t2RatioNow (s : State) (x : T2Id) : Ratio :=
  match t2Clk s.cfg (s.tm x).clkcon with
  | .fosc4 => ratioFosc4
  | .fosc => ratioFosc
  | .intRc => ratioOfRat (4 * s.osc.fInt / s.osc.fEff)
  | .openEntry => ratioFosc4

/-! ### The hardware-limit policy -/

def policyGate : HltPolicy → HltGate
  | .reserved => .none
  | .policy g _ _ _ => g

def policyStart : HltPolicy → HltStart
  | .reserved => .none
  | .policy _ st _ _ => st

def policyReset : HltPolicy → HltReset
  | .reserved => .none
  | .policy _ _ r _ => r

def policyEnd : HltPolicy → HltEnd
  | .reserved => .free
  | .policy _ _ _ e => e

/-- `M` uses the external reset signal (R237). -/
def hltUsesErs (m : HltPolicy) : Bool :=
  policyGate m != .none || !(policyStart m == .none || policyStart m == .software) || policyReset m != .none

/-- The gate level is satisfied (R240). -/
def hltGateOk (m : HltPolicy) (ers : Level) : Bool :=
  match policyGate m with
  | .none => true
  | .high => ers == .H
  | .low => ers == .L

/-- A level reset is active: it "holds the count at 0 while the level lasts" (R240). -/
def hltLevelReset (m : HltPolicy) (ers : Level) : Bool :=
  match policyReset m with
  | .levelH => ers == .H
  | .levelL => ers == .L
  | _ => false

/-- `M` starts on a level (R240). -/
def hltLevelStart (m : HltPolicy) : Bool := policyStart m == .levelH || policyStart m == .levelL

/-- The level of a level start is present. -/
def hltStartLevel (m : HltPolicy) (ers : Level) : Bool :=
  (policyStart m == .levelH && ers == .H) || (policyStart m == .levelL && ers == .L)

/-- A start edge of `M` (R240). -/
def hltStartEdge (m : HltPolicy) (old new : Level) : Bool :=
  match policyStart m with
  | .rise => isRising old new
  | .fall => isFalling old new
  | .any => isRising old new || isFalling old new
  | _ => false

/-- A reset edge of `M` (R240). -/
def hltResetEdge (m : HltPolicy) (old new : Level) : Bool :=
  match policyReset m with
  | .rise => isRising old new
  | .fall => isFalling old new
  | .any => isRising old new || isFalling old new
  | _ => false

/-- The document's closed gate-reset action enumeration (R245). -/
inductive GateResetAction where
  | nop | start | stop | stopZero | reset
  deriving DecidableEq, Repr

/-- What `M` does on a change of the external reset signal, as R245 classifies it. Where one change is several of these
(a policy that starts and resets on one edge), the one that zeroes the count is named. Of the changes that R245 puts in no
class, the gate level coming to `M.gate`'s level and the end of a level reset, after which counting resumes, are `nop`.
DEDUCED (assumption log 33) -/
def hltAction (m : HltPolicy) (old new : Level) : GateResetAction :=
  if hltResetEdge m old new then .reset
  else if hltLevelReset m new && !hltLevelReset m old then .stopZero
  else if hltStartEdge m old new || (hltStartLevel m new && !hltStartLevel m old) then .start
  else if (hltGateOk m old && !hltGateOk m new) || (hltStartLevel m old && !hltStartLevel m new) then .stop
  else .nop

/-- What `M` does at a period end, as R245 classifies R241: a one-shot or monostable end is STOP_ZERO. A free-running
period end, which R245 does not name, is `nop` (assumption log 33). -/
def hltEndAction (m : HltPolicy) : GateResetAction :=
  match policyEnd m with
  | .free => .nop
  | .oneshot => .stopZero
  | .monostable => .stopZero

/-- `HltCounts()` (R240). -/
def hltCounts (m : HltPolicy) (on armed : Bool) (ers : Level) : Bool :=
  on && m != .reserved && hltGateOk m ers && (policyStart m == .none || armed) && !hltLevelReset m ers

/-! ### Count and breakpoint -/

/-- `tx_run = ON ∧ HltCounts() ∧ ¬frozen ∧ T2_CLK_TABLE[CS]` is an internal ratio entry (R231). -/
def t2RunCond (s : State) (x : T2Id) : Bool :=
  let t := s.tm x
  hltCounts (t2Policy s.cfg t.hlt) (t2On t.con) t.armed t.ers && !s.sleeping && t2Clk s.cfg t.clkcon != .openEntry

/-- `floor((tin(now) - A) / P)` in the ratio of the anchor (R232, R239). -/
def t2Abs (s : State) (x : T2Id) : Int :=
  let t := s.tm x
  (tin t.ratio s.cycle - t.anchor) / (t2Div t.con : Int)

/-- `Read(TMRx)` (R232). -/
def t2Count (s : State) (x : T2Id) : Byte :=
  if (s.tm x).run then BitVec.ofInt 8 (t2Abs s x) else (s.tm x).held

def periodBit : Byte := 0x01
def wrapBit : Byte := 0x02

/-- "bit 2+i = DUTY of CCP unit i" (R39). -/
def dutyBit : CcpId → Byte
  | .ccp1 => 0x08
  | .ccp2 => 0x10

/-- The position of the period match, in input clocks since the anchor (R230, R239). -/
def t2PeriodAt (s : State) (x : T2Id) : Rat := ((((s.tm x).pr.toNat + 1) * t2Div (s.tm x).con : Nat) : Rat)

/-- The armed duty matches at `DC · P / 4`, with their mask bits (R239). -/
def t2Duties (s : State) (x : T2Id) : List (Rat × Byte) :=
  ((s.tm x).pwm.filter (fun i => (s.ccp i).dutyArmed)).map
    (fun i => (mkRat ((s.ccp i).dcLatched * t2Div (s.tm x).con : Nat) 4, dutyBit i))

/-- The candidate positions of R239 with their mask bits: the period match or, past PRx, the wrap; and the armed duties.
A count found past PRx takes the wrap phase, as the pseudocode reads: also after the first match where a cycle has more
input clocks than a period, and where an earlier event of the cycle of a period match that is due recomputes. DEDUCED
(assumption log 31). With `due` a period match is still to come in this cycle, which the count has reached. -/
def t2Candidates (due : Bool) (s : State) (x : T2Id) : List (Rat × Byte) :=
  let main : Rat × Byte :=
    if due || decide (t2Abs s x ≤ ((s.tm x).pr.toNat : Int)) then (t2PeriodAt s x, periodBit)
    else (((256 * t2Div (s.tm x).con : Nat) : Rat), wrapBit)
  main :: t2Duties s x

def leastKey : List (Rat × Byte) → Rat
  | [] => 0
  | [e] => e.1
  | e :: es => min e.1 (leastKey es)

/-- The cycle of a breakpoint position: `max(now, CycleOf(A + q))` (R239). -/
def t2CycleOf (s : State) (x : T2Id) (q : Rat) : Nat :=
  max s.cycle (cycleOf (s.tm x).ratio (((s.tm x).anchor : Rat) + q)).toNat

/-- "OR of the bits of every kind with key q*" (R239), and the bit of a period match on the same cycle: "a Timer2 duty
match and period match of the same cycle are one event" (R480), also where the duty ends within the period's last cycle.
DEDUCED (assumption log 36) -/
def t2MaskAt (s : State) (x : T2Id) (q : Rat) (l : List (Rat × Byte)) : Byte :=
  l.foldl (fun m e =>
    if e.1 = q ∨ (e.2 = periodBit ∧ t2CycleOf s x e.1 = t2CycleOf s x q) then m ||| e.2 else m) 0

/-- `T2Recompute(x)` (R239), with `due` while a period match of this cycle is still to come. -/
def t2Place (due : Bool) (x : T2Id) (s : State) : State :=
  let t := s.tm x
  if t.run then
    let cands := t2Candidates due s x
    let q := leastKey cands
    reschedule (.tBrk x) (t2CycleOf s x q)
      (s.setTm x { t with breakValue := some q, breakMask := t2MaskAt s x q cands })
  else cancel (.tBrk x) (s.setTm x { t with breakValue := none, breakMask := 0 })

/-- `T2Recompute(x)` (R239). -/
def t2Recompute (x : T2Id) (s : State) : State := t2Place false x s

/-- An armed duty match falls on this cycle, up to the period match: two units' duties at different positions of a cycle
are two events in position order (R239), and the period match is one with the last of them (R480). -/
def t2DutyLeft (s : State) (x : T2Id) : Bool :=
  (s.tm x).run && (t2Duties s x).any (fun e => decide (e.1 ≤ t2PeriodAt s x ∧ t2CycleOf s x e.1 = s.cycle))

/-- `T2Update(x, V)` (R233). -/
def t2Update (x : T2Id) (v : Byte) (s : State) : State :=
  let t := s.tm x
  if t2RunCond s x then
    let k := t2RatioNow s x
    t2Recompute x (s.setTm x { t with
      run := true, ratio := k, anchor := tin k s.cycle - (v.toNat : Int) * (t2Div t.con : Int) })
  else t2Recompute x (s.setTm x { t with run := false, held := v })

/-! ### The external reset signal -/

/-- The source the instance holds: "exactly the sink or attachment of `T2_RST_TABLE[RSEL]` while `M` uses the reset
signal and ON = 1, none otherwise" (R237). A `Refused` entry counts as selected under the same condition: DEDUCED
(assumption log 38) -/
def t2RstWant (cfg : Cfg) (t : Timer2) : Option SigDesc :=
  if t2On t.con && hltUsesErs (t2Policy cfg t.hlt) then some (cfg.t2RstTable.getD (field t.rst 0 5) .low) else none

/-- Recomputes the external-reset subscription after a change from the source `old`; a gained source gives `tx_ers` its
current level (R236, R237). -/
def t2Resubscribe (x : T2Id) (old : Option SigDesc) (s : State) : State :=
  let want := t2RstWant s.cfg (s.tm x)
  let s1 := raiseIfRefused want (resubscribe (.tRst x) (.tRst x) want s)
  if want = old then s1
  else match want with
    | some d => s1.setTm x { s1.tm x with ers := gainedLevel s1 d }
    | none => s1

/-- "a level start has `tx_armed = (tx_ers = level)`" while ON = 1 (R240): after a change of the signal and, beyond the
write rules' own words, of MODE, source or ON. DEDUCED (assumption log 43) -/
def t2ArmLevel (x : T2Id) (s : State) : State :=
  let t := s.tm x
  let m := t2Policy s.cfg t.hlt
  if hltLevelStart m && t2On t.con then s.setTm x { t with armed := hltStartLevel m t.ers } else s

/-- The count to go on from: 0 while a level reset is active (R240), else `v` (assumption log 13). -/
def t2ResetCount (x : T2Id) (v : Byte) (s : State) : Byte :=
  let t := s.tm x
  if t2On t.con && hltLevelReset (t2Policy s.cfg t.hlt) t.ers then 0 else v

/-- A new level of the external reset signal (R238): a reset sets the count to 0, a start sets `tx_armed`. -/
def t2ErsInput (x : T2Id) (e : Level) (s : State) : State :=
  let t := s.tm x
  if e = t.ers then s
  else
    let v := t2Count s x
    let m := t2Policy s.cfg t.hlt
    let armed := if hltStartEdge m t.ers e then true else t.armed
    let s1 := t2ArmLevel x (s.setTm x { t with ers := e, armed := armed })
    t2Update x (if hltResetEdge m t.ers e then 0 else t2ResetCount x v s1) s1

/-- The external-reset pin sink (R238). -/
def t2RstSink (x : T2Id) (p : PinIx) (new : Level) (s : State) : State :=
  if selectsPin (t2RstWant s.cfg (s.tm x)) p then t2ErsInput x (lowZ new) s else s

/-- A delivery to Tx_RST (R238): an event "delivers a pulse: an edge to H immediately followed by an edge to L". -/
def t2RstRecv (x : T2Id) (k : ChanKind) (sub v : Nat) (s : State) : State :=
  if selectsBus (t2RstWant s.cfg (s.tm x)) k sub then
    if isEventKind k then t2ErsInput x .L (t2ErsInput x .H s) else t2ErsInput x (levelOfValue v) s
  else s

/-! ### Register writes -/

/-- PUT TMRx (R234). A stopped instance stores `v` also while a level reset is active. DEDUCED (assumption log 32) -/
def writeTmr (x : T2Id) (v : Byte) (s : State) : State := t2Update x v s

/-- PUT PRx (R235). A write of the current byte reschedules the event of a running instance too. DEDUCED (assumption
log 41) -/
def writePr (x : T2Id) (v : Byte) (s : State) : State := t2Recompute x (s.setTm x { s.tm x with pr := v })

/-- The postscaler after a write of TxCON: reloaded when OUTPS changes (R236). -/
def t2PostAfter (old new : Byte) (post : Prescaler) : Prescaler :=
  if t2Outps new ≠ t2Outps old then preLoad (t2Outps new + 1) else post

/-- `tx_armed` after a write of TxCON (R236). -/
def t2ArmedAfter (m : HltPolicy) (old new : Byte) (armed : Bool) : Bool :=
  if !t2On new then false
  else if !t2On old && policyStart m == .software then true
  else armed

/-- PUT TxCON (R236). A write that changes OUTPS alone takes the pseudocode's path, and re-anchors a running count:
DEDUCED (assumption log 40). Setting ON arms a level start whose level is present (R240). DEDUCED (assumption log 43) -/
def writeTcon (x : T2Id) (new : Byte) (s : State) : State :=
  let v := t2Count s x
  let t := s.tm x
  let old := t.con
  if new = old then s
  else
    let m := t2Policy s.cfg t.hlt
    let s1 := s.setTm x { t with
      con := new, post := t2PostAfter old new t.post, armed := t2ArmedAfter m old new t.armed }
    if t2On new = t2On old then t2Update x v s1
    else
      let s2 := t2ArmLevel x (t2Resubscribe x (t2RstWant s.cfg t) s1)
      t2Update x (t2ResetCount x v s2) s2

/-- PUT TxCLKCON (R236). A write that selects another entry of the same ratio re-anchors a running count too. DEDUCED
(assumption log 40) -/
def writeTclkcon (x : T2Id) (new : Byte) (s : State) : State :=
  let v := t2Count s x
  let t := s.tm x
  if new = t.clkcon then s else t2Update x v (s.setTm x { t with clkcon := new })

/-- `tx_armed` after a write of TxHLT: "on a change of MODE `tx_armed <- (M'.start = SOFTWARE ∧ ON = 1)`" (R237). -/
def t2ArmedAfterMode (m : HltPolicy) (old new con : Byte) (armed : Bool) : Bool :=
  if field new 0 5 = field old 0 5 then armed else policyStart m == .software && t2On con

/-- What follows the store of TxHLT or TxRST (R237): the subscription, a level start's arming on a change of MODE or of
the source, and `T2Update`. `t` is the instance before the write and `v` its count. A write of the current byte re-anchors
a running count too: DEDUCED (assumption log 41). On a change of MODE R237 has `tx_armed <- (M'.start = SOFTWARE ∧ ON = 1)`,
false for a level start, which R240 arms by its level: the model arms it. DEDUCED (assumption log 43) -/
def t2AfterSelect (x : T2Id) (t : Timer2) (v : Byte) (s : State) : State :=
  let old := t2RstWant s.cfg t
  let s1 := t2Resubscribe x old s
  let t' := s1.tm x
  if field t'.hlt 0 5 = field t.hlt 0 5 ∧ t2RstWant s1.cfg t' = old then t2Update x v s1
  else
    let s2 := t2ArmLevel x s1
    t2Update x (t2ResetCount x v s2) s2

/-- PUT TxHLT (R237). -/
def writeThlt (x : T2Id) (new : Byte) (s : State) : State :=
  let v := t2Count s x
  let t := s.tm x
  let armed := t2ArmedAfterMode (t2Policy s.cfg new) t.hlt new t.con t.armed
  t2AfterSelect x t v (s.setTm x { t with hlt := new, armed := armed })

/-- PUT TxRST (R237). -/
def writeTrst (x : T2Id) (new : Byte) (s : State) : State :=
  let v := t2Count s x
  let t := s.tm x
  t2AfterSelect x t v (s.setTm x { t with rst := new })

/-- A running instance clocked from the internal RC "does `V <- Read(TMRx)` under the old ratio and `T2Update(x, V)`
under the new" (R242). -/
def t2Reratio (x : T2Id) (s : State) : State :=
  let t := s.tm x
  if t.run && t2Clk s.cfg t.clkcon == .intRc then t2Update x (t2Count s x) s else s

/-- R242 for the three instances, in the order Timer2, Timer4, Timer6. DESIGN CHOICE (assumption log 34) -/
def t2ReratioAll (s : State) : State := t2Reratio .t6 (t2Reratio .t4 (t2Reratio .t2 s))

/-- R203 for an instance whose clock ratio has changed with no republish (assumption log 14). -/
def t2ReratioIfStale (x : T2Id) (s : State) : State :=
  if t2RatioNow s x = (s.tm x).ratio then s else t2Reratio x s

/-- The same for the three instances, in the order Timer2, Timer4, Timer6. DESIGN CHOICE (assumption log 34) -/
def t2ReratioStale (s : State) : State := t2ReratioIfStale .t6 (t2ReratioIfStale .t4 (t2ReratioIfStale .t2 s))

end Sys2Proof.Machine
end

