-- ==== Sys2Proof/Machine/Osc.lean ====
section
/-!
DEFINITION. Machine/Osc.lean: the oscillator control state machine (44_oscillator.md; fields in 10_state.md R51 to R53).
-/

namespace Sys2Proof.Machine

open Sys2Proof

def oscScs (con : Byte) : Nat := field con 0 2
def oscIrcf (con : Byte) : Nat := field con 3 4
def oscPll (con : Byte) : Bool := bit con 7
def oscTun (tune : Byte) : Nat := field tune 0 6

/-- `Src()`: `none` for INTERNAL (R341). -/
def oscSrc (cfg : Cfg) (con : Byte) : Option ExtSrc :=
  match oscScs con with
  | 0 => match cfg.foscCfg with
    | .internal => none
    | .external => some .primary
  | 1 => some .secondary
  | _ => none

/-- `freq(S)` (R342). -/
def extFreq (cfg : Cfg) : ExtSrc → Rat
  | .primary => cfg.foscExtHz
  | .secondary => cfg.fsecHz

def ircfEntry (cfg : Cfg) (con : Byte) : Rat × Tier := cfg.ircfTable.getD (oscIrcf con) (0, .lf)

/-- `f_int = IRCF_FREQ_TABLE[IRCF] · (SPLLEN = 1 ? 4 : 1) · TUNE_FACTOR(TUN)` (R343). -/
def oscIntFreq (cfg : Cfg) (con tune : Byte) : Rat :=
  (ircfEntry cfg con).1 * (if oscPll con then 4 else 1) * cfg.tuneFactor.getD (oscTun tune) 1

/-- `floor(f)` in Hz. -/
def hertz (f : Rat) : Nat := f.floor.toNat

/-- `Republish(f)` (R347). -/
def republish (w : Wire) (f : Rat) (s : State) : State :=
  if f = s.osc.fEff then s
  else
    let s1 := emit (.freq (hertz f) s.cycle) { s with osc := { s.osc with fEff := f } }
    t2ReratioAll (w (.publish .freq 0 (hertz f)) s1)

/-- `StartSettle()` (R342). -/
def startSettle (s : State) : State :=
  reschedule .oscSettle (s.cycle + s.cfg.settleCycles) { s with osc := { s.osc with settled := false } }

/-- `StartOst(S, intRuns)` (R342). -/
def startOst (w : Wire) (src : ExtSrc) (intRuns : Bool) (s : State) : State :=
  let s1 := reschedule .oscOst (s.cycle + s.cfg.ostCycles)
    { s with osc := { s.osc with state := .ost, target := some src } }
  if s.cfg.twoSpeed then
    let s2 := if intRuns then s1 else startSettle s1
    republish w s2.osc.fInt s2
  else republish w (extFreq s1.cfg src) (cancel .oscSettle s1)

/-- Recomputes `f_int` (R343). -/
def updateFInt (s : State) : State :=
  { s with osc := { s.osc with fInt := oscIntFreq s.cfg s.osc.con s.osc.tune } }

/-- The switch to the internal RC (R340, R342). -/
def startInternal (w : Wire) (s : State) : State :=
  let s1 := startSettle { s with osc := { s.osc with state := .intRc, target := none } }
  republish w s1.osc.fInt s1

/-- `OscDerive()` (R340). -/
def oscDerive (w : Wire) (s : State) : State :=
  let s1 := updateFInt (cancel .oscOst (cancel .oscSettle s))
  t2ReratioStale
    (match oscSrc s1.cfg s1.osc.con with
    | none => startInternal w s1
    | some src => startOst w src false { s1 with osc := { s1.osc with settled := false } })

/-- The reaction to a PUT of OSCCON or OSCTUNE, given the two registers after the write (R342). -/
def writeOsc (w : Wire) (con tune : Byte) (s : State) : State :=
  let old := s.osc
  let s1 := { s with osc := { old with con := con, tune := tune } }
  t2ReratioStale
    (if oscScs con = oscScs old.con ∧ oscIrcf con = oscIrcf old.con ∧ oscPll con = oscPll old.con then
      if oscTun tune = oscTun old.tune then s1
      else
        let s2 := updateFInt s1
        if old.state = .intRc then republish w s2.osc.fInt s2 else s2
    else
      let s2 := updateFInt s1
      match oscSrc s2.cfg con with
      | none => startInternal w (cancel .oscOst s2)
      | some src =>
        if old.state ≠ .intRc ∧ old.target = some src then s2
        else startOst w src (old.state == .intRc) s2)

def writeOsccon (w : Wire) (new : Byte) (s : State) : State := writeOsc w new s.osc.tune s
def writeOsctune (w : Wire) (new : Byte) (s : State) : State := writeOsc w s.osc.con new s

/-- The internal RC is the clock: the INTRC state, or the two-speed warm-up (R345, R348). -/
def intRcRuns (s : State) : Bool :=
  s.osc.state == .intRc || (s.osc.state == .ost && s.cfg.twoSpeed)

/-- The callback of OSC_SETTLE (R345). -/
def oscSettleCallback (s : State) : State :=
  if intRcRuns s then { s with osc := { s.osc with settled := true } } else s

/-- The callback of OSC_OST (R346). -/
def oscOstCallback (w : Wire) (s : State) : State :=
  if s.osc.state = .ost then
    match s.osc.target with
    | some src => republish w (extFreq s.cfg src) { s with osc := { s.osc with state := .extStable } }
    | none => s
  else s

/-- OSCSTAT (R348). -/
def oscStat (s : State) : Byte :=
  let ok := s.osc.settled && intRcRuns s
  let tier := (ircfEntry s.cfg s.osc.con).2
  let hf := natOfBool (ok && tier == .hf)
  BitVec.ofNat 8 (hf + 2 * natOfBool (ok && tier == .lf) + 4 * natOfBool (ok && tier == .mf) + 16 * hf +
    32 * natOfBool (s.osc.state == .extStable) + 64 * natOfBool (ok && oscPll s.osc.con))

/-- The names of the document's enumeration, by state and tier (R50). `undef` is "the state before the construction-time
derivation has run and is never observable after construction". -/
inductive OscStateName where
  | intosc | hfintosc | lfintosc | ost | excstable | undef
  deriving DecidableEq, Repr

/-- `OscStateName(state, tier)` (R50). -/
def oscStateName (st : OscState) (tier : Tier) : OscStateName :=
  match st with
  | .intRc => match tier with
    | .hf => .hfintosc
    | .mf => .intosc
    | .lf => .lfintosc
  | .ost => .ost
  | .extStable => .excstable

end Sys2Proof.Machine
end

