-- ==== Sys2Proof/Machine/Adc.lean ====
section
/-!
DEFINITION. Machine/Adc.lean: the ADC sequencer (46_nco_angular_adc.md R420 to R426; fields in 10_state.md R60).
-/

namespace Sys2Proof.Machine

open Sys2Proof

def adOn (con0 : Byte) : Bool := bit con0 0
def adGo (con0 : Byte) : Bool := bit con0 1

/-- `vin[CHS]`: "A CHS outside `0 .. N_ADC_CH - 1` samples 0 V" (R60, R421). -/
def adChannel (s : State) : Rat :=
  let chs := field s.adc.con0 2 5
  if chs < s.cfg.nAdcCh then s.vin[Fin.ofNat 32 chs] else 0

def setGo (v : Bool) (s : State) : State := { s with adc := { s.adc with con0 := setBit s.adc.con0 1 v } }

/-- `AdcStart(c)` with `c` the cycle of effect (R421). -/
def adcStart (s : State) : State :=
  if s.adc.state ≠ .idle then s
  else if adOn s.adc.con0 then
    let s1 := setGo true s
    let s2 := { s1 with adc := { s1.adc with
      vin := adChannel s1, vhi := s1.vrefhi, vlo := s1.vreflo, state := .acquiring } }
    reschedule .adcSeq (s2.effectCycle + s2.adc.acq.toNat) s2
  else emit (.warn .adcOff s.cycle) (setGo false s)

/-- The abort of R420. -/
def adcAbort (s : State) : State :=
  let s1 := cancel .adcSeq s
  setGo false { s1 with adc := { s1.adc with state := .idle } }

/-- PUT ADCON0 (R420). -/
def writeAdcon0 (new : Byte) (s : State) : State :=
  let oldGo := adGo s.adc.con0
  let s1 := { s with adc := { s.adc with con0 := new } }
  let s2 := if adGo new && !oldGo then adcStart (setGo false s1) else s1
  if (!adGo new || !adOn new) && s2.adc.state != .idle then adcAbort s2 else s2

/-- PUT ADCON1 (R420): GO and ADON are not in it, so it is only stored. -/
def writeAdcon1 (new : Byte) (s : State) : State := { s with adc := { s.adc with con1 := new } }

/-- `TadCycles(ADCS)` (R426). -/
def tadCycles (cfg : Cfg) (adcs : Nat) : Rat :=
  match adcs with
  | 0 => mkRat 1 2
  | 1 => 2
  | 2 => 8
  | 4 => 1
  | 5 => 4
  | 6 => 16
  | _ => cfg.adcFrcTad

/-- The conversion delay, `ceil((ADC_BITS + ADC_GUARD) · TadCycles(ADCS))` (R422). -/
def adcDelay (s : State) : Nat :=
  ((((s.cfg.adcBits + s.cfg.adcGuard : Nat) : Rat) * tadCycles s.cfg (field s.adc.con1 4 3)).ceil).toNat

/-- The callback of ADC_SEQ in state ACQUIRING (R422). -/
def adcAcquired (s : State) : State :=
  let s1 := { s with adc := { s.adc with state := .converting } }
  reschedule .adcSeq (s1.effectCycle + adcDelay s1) s1

/-- The result for a positive span: `clamp(floor(x · (2^N - 1) + 1/2), 0, 2^N - 1)` (R424). -/
def quantizeSpan (n : Nat) (vin vhi vlo : Rat) : Nat :=
  let x := (vin - vlo) / (vhi - vlo)
  min (x * ((2 ^ n - 1 : Nat) : Rat) + mkRat 1 2).floor.toNat (2 ^ n - 1)

/-- `Quantize()` (R424): the result, and the warning of a span that is not positive. -/
def quantize (s : State) : Nat × State :=
  if s.adc.vhi ≤ s.adc.vlo then (0, emit (.warn .adcSpan s.cycle) s)
  else (quantizeSpan s.cfg.adcBits s.adc.vin s.adc.vhi s.adc.vlo, s)

/-- The 16-bit word of a result, right- or left-justified by ADFM (R425). -/
def resultWord (n : Nat) (adfm : Bool) (r : Nat) : Half :=
  if adfm then BitVec.ofNat 16 r else BitVec.ofNat 16 (r * 2 ^ (16 - n))

/-- The callback of ADC_SEQ in state CONVERTING (R423). -/
def adcConverted (w : Wire) (s : State) : State :=
  let (r, s1) := quantize s
  let word := resultWord s1.cfg.adcBits (bit s1.adc.con1 7) r
  let s2 := { s1 with adc := { s1.adc with resh := highByte word, resl := lowByte word } }
  let s3 := setGo false s2
  let s4 := { s3 with adc := { s3.adc with state := .idle } }
  w (.publish .adcDone 0 r) (raiseIF .adc s4)

/-- The callback of ADC_SEQ (R138, R422, R423): "In state IDLE the callback does nothing". -/
def adcSeqCallback (w : Wire) (s : State) : State :=
  match s.adc.state with
  | .idle => s
  | .acquiring => adcAcquired s
  | .converting => adcConverted w s

end Sys2Proof.Machine
end

