-- ==== Sys2Proof/Machine/Ccp.lean ====
section
/-!
DEFINITION. Machine/Ccp.lean: the capture/compare/PWM engine (43_ccp.md; fields in 10_state.md R45 to R49). Outputs A to
D are `k` = 0 to 3. The cycle `c` of a rule is `State.effectCycle`.
-/

namespace Sys2Proof.Machine

open Sys2Proof

/-! ### Fields and modes (R45 to R48) -/

def ccpMode (u : Ccp) : Nat := field u.con 0 4
def ccpPm (u : Ccp) : Nat := field u.con 6 2
def ccpPtsel (u : Ccp) : Nat := field u.tsel 0 2

/-- "1, 01, ... 11xx PWM" (R45). -/
def isPwmMode (m : Nat) : Bool := 12 ≤ m

/-- 0001, 0010, 1000, 1001, 1010, 1011 (R45, R280). -/
def isCompareMode (m : Nat) : Bool := m == 1 || m == 2 || (8 ≤ m && m < 12)

/-- 0100 to 0111 (R45). -/
def isCaptureMode (m : Nat) : Bool := 4 ≤ m && m < 8

/-- The compare modes that use output A: set, clear, toggle, pulse (R283). -/
def comparesDrive (m : Nat) : Bool := m == 1 || m == 2 || m == 8 || m == 9

/-- The bridge steering in force: CCP2 is always single (R284). -/
inductive Steering where
  | single | fullForward | halfBridge | fullReverse
  deriving DecidableEq, Repr

def steeringOf (i : CcpId) (pm : Nat) : Steering :=
  match i with
  | .ccp2 => .single
  | .ccp1 => match pm with
    | 1 => .fullForward
    | 2 => .halfBridge
    | 3 => .fullReverse
    | _ => .single

def State.steering (s : State) (i : CcpId) : Steering := steeringOf i (ccpPm (s.ccp i))

/-- The PWM timer: 0 = Timer2, 1 = Timer4, 2 = Timer6, 3 = Timer2 (R46). -/
def ptselTimer (ptsel : Nat) : T2Id :=
  match ptsel with
  | 1 => .t4
  | 2 => .t6
  | _ => .t2

def State.pwmTimer (s : State) (i : CcpId) : T2Id := ptselTimer (ccpPtsel (s.ccp i))

/-- `{CCPRiH, CCPRiL}` (R83). -/
def ccpr (u : Ccp) : Half := pairOf u.rh u.rl

/-- The 10-bit duty: `{CCPRiL, DCB}` or, with FMT = 1, `{CCPRiH, CCPRiL[7:6]}` (R46, R295). -/
def ccpDuty (u : Ccp) : Nat :=
  if bit u.tsel 6 then u.rh.toNat * 4 + field u.rl 6 2 else u.rl.toNat * 4 + field u.con 4 2

/-- PDC, the dead-band delay (R47). -/
def ccpPdc (u : Ccp) : Nat := field u.pwmcon 0 7

/-! ### Outputs (R283) -/

/-- Output `k` is used by the current mode (R283). -/
def outputUsed (i : CcpId) (u : Ccp) (k : Fin 4) : Bool :=
  if isPwmMode (ccpMode u) then
    match steeringOf i (ccpPm u) with
    | .single => k == 0
    | .halfBridge => k == 0 || k == 1
    | .fullForward | .fullReverse => true
  else comparesDrive (ccpMode u) && k == 0

/-- `PSS(k)`: 00 gives L, 01 gives H, 1x gives Z (R48, R283). -/
def pssLevel (u : Ccp) (k : Fin 4) : Level :=
  match (if k == 0 || k == 2 then field u.as 2 2 else field u.as 0 2) with
  | 0 => .L
  | 1 => .H
  | _ => .Z

/-- A logical level inverted by an active-low polarity bit. -/
def invertIf (b : Bool) (l : Level) : Level :=
  if b then (match l with | .L => .H | .H => .L | .Z => .Z) else l

/-- `pinlvl(k)` (R283). -/
def outputLevel (i : CcpId) (u : Ccp) (k : Fin 4) : Level :=
  if !outputUsed i u k then .Z
  else if isPwmMode (ccpMode u) then
    if u.shutdown then pssLevel u k else invertIf (bit u.pol k) u.out[k]
  else u.out[k]

/-- The pins that output `k` of unit `i` drives, by source or by control (R115, R283). -/
def pinOfOutput (i : CcpId) (k : Fin 4) (m : Pin) : Bool :=
  match i with
  | .ccp1 => m.src == some (.ccp1 k) || m.ctl == some (.ccp1 k)
  | .ccp2 => k == 0 && (m.src == some .ccp2A || m.ctl == some .ccp2A)

/-- `Refresh(i)` for output `k` (R283). -/
def refreshOutput (w : Wire) (i : CcpId) (s : State) (k : Fin 4) : State :=
  let u := s.ccp i
  let old := u.pin[k]
  let new := outputLevel i u k
  if new = old then s
  else
    let s1 := s.setCcp i { u with pin := u.pin.set k new }
    let s2 := driveWhere w (pinOfOutput i k) s1
    if bitOf new = bitOf old then s2 else w (.publish .pwmEdge (4 * i.idx + k) (bitOf new)) s2

/-- `Refresh(i)` (R283): outputs A to D in order. -/
def refresh (w : Wire) (i : CcpId) (s : State) : State := (List.finRange 4).foldl (refreshOutput w i) s

def setOutput (i : CcpId) (k : Fin 4) (l : Level) (s : State) : State :=
  let u := s.ccp i
  s.setCcp i { u with out := u.out.set k l }

def setOutputs (i : CcpId) (l : Vector Level 4) (s : State) : State := s.setCcp i { s.ccp i with out := l }

/-- `Rise(k)` (R284). A turn-on that is pending from an earlier change is replaced also where PDC is now 0: "A second
change of `m` before the delay elapses replaces the pending turn-on, so the output that would have turned on stays L". -/
def rise (i : CcpId) (k : Fin 4) (s : State) : State :=
  let pdc := ccpPdc (s.ccp i)
  if pdc = 0 then cancel (.ccpDb i) (setOutput i k .H (s.setCcp i { s.ccp i with dbTarget := none }))
  else
    reschedule (.ccpDb i) (s.effectCycle + pdc) (s.setCcp i { s.ccp i with dbTarget := some (k, .H) })

/-- `SetMod(i, m, c)` (R284). -/
def setMod (w : Wire) (i : CcpId) (m : Level) (s : State) : State :=
  let old := (s.ccp i).mod
  let s1 := s.setCcp i { s.ccp i with mod := m }
  let s2 :=
    match s.steering i with
    | .single => setOutput i 0 m s1
    | .fullForward => setOutputs i #v[.H, .L, .L, m] s1
    | .fullReverse => setOutputs i #v[.L, m, .H, .L] s1
    | .halfBridge =>
      if m = old then s1
      else if m = .H then rise i 0 (setOutput i 1 .L s1)
      else rise i 1 (setOutput i 0 .L s1)
  refresh w i s2

/-- Every output at "its steering level for `m = L` with no dead band" (R312). -/
def idleOutputs (i : CcpId) (s : State) : State :=
  match s.steering i with
  | .single => setOutput i 0 .L s
  | .fullForward => setOutputs i #v[.H, .L, .L, .L] s
  | .fullReverse => setOutputs i #v[.L, .L, .H, .L] s
  | .halfBridge => setOutput i 1 .H (setOutput i 0 .L s)

/-! ### Shutdown (R310 to R312) -/

/-- The shutdown source the unit holds: `CCP_AS_TABLE[ASRC]` "while ASRC ≠ 0, none otherwise" (R310). -/
def asWant (cfg : Cfg) (as : Byte) : Option SigDesc :=
  let asrc := field as 4 3
  if asrc = 0 then none else some (cfg.ccpAsTable.getD asrc .low)

/-- `AsActive(i)`: "the selected shutdown signal is H (Z as L)" (R310). -/
def asActive (s : State) (i : CcpId) : Bool :=
  (asWant s.cfg (s.ccp i).as).isSome && isHigh (s.ccp i).asLvl

/-- `Shutdown(i, c)` (R312). Outside PWM mode it "changes no output" (R310). -/
def shutdownCcp (i : CcpId) (s : State) : State :=
  let s1 := cancel (.ccpDb i) (s.setCcp i { s.ccp i with shutdown := true })
  let s2 := s1.setCcp i { s1.ccp i with dbTarget := none, dutyArmed := false, mod := .L }
  if isPwmMode (ccpMode (s2.ccp i)) then t2Recompute (s2.pwmTimer i) (idleOutputs i s2) else s2

/-- "`ASE <- ccp_shutdown[i]`" (R310). -/
def storeAse (i : CcpId) (s : State) : State :=
  let u := s.ccp i
  s.setCcp i { u with as := setBit u.as 7 u.shutdown }

/-- The level taken from a shutdown source when the selection changes (R310). -/
def asGain (i : CcpId) (old want : Option SigDesc) (s : State) : State :=
  if want = old then s
  else match want with
    | some d => s.setCcp i { s.ccp i with asLvl := gainedLevel s d }
    | none => s.setCcp i { s.ccp i with asLvl := .L }

/-- PUT CCPiAS (R310). -/
def writeCcpas (w : Wire) (i : CcpId) (new : Byte) (s : State) : State :=
  let old := asWant s.cfg (s.ccp i).as
  let want := asWant s.cfg new
  let s1 := s.setCcp i { s.ccp i with as := new }
  let s2 := asGain i old want (raiseIfRefused want (resubscribe (.ccpShut i) (.ccpAs i) want s1))
  let s3 := if bit new 7 && !(s2.ccp i).shutdown then shutdownCcp i s2 else s2
  let s4 := if !bit new 7 && (s3.ccp i).shutdown && !asActive s3 i then s3.setCcp i { s3.ccp i with shutdown := false }
    else s3
  let s5 := if asActive s4 i && !(s4.ccp i).shutdown then shutdownCcp i s4 else s4
  refresh w i (storeAse i s5)

/-- The shutdown signal becomes active (R311). -/
def asActivate (w : Wire) (i : CcpId) (s : State) : State :=
  if (s.ccp i).shutdown then s else refresh w i (storeAse i (shutdownCcp i s))

/-- A new level of the shutdown signal (R311): "A fall of the signal does nothing". -/
def asLevelInput (w : Wire) (i : CcpId) (l : Level) (s : State) : State :=
  let rose := isRising (s.ccp i).asLvl l
  let s1 := s.setCcp i { s.ccp i with asLvl := l }
  if rose then asActivate w i s1 else s1

/-- The CCPi shutdown-pin sink (R311). -/
def asSink (w : Wire) (i : CcpId) (p : PinIx) (new : Level) (s : State) : State :=
  if selectsPin (asWant s.cfg (s.ccp i).as) p then asLevelInput w i (lowZ new) s else s

/-- A delivery to CCPi_AS (R311): "an event source counts as a momentary activation". -/
def asRecv (w : Wire) (i : CcpId) (k : ChanKind) (sub v : Nat) (s : State) : State :=
  if selectsBus (asWant s.cfg (s.ccp i).as) k sub then
    if isEventKind k then asActivate w i s else asLevelInput w i (levelOfValue v) s
  else s

/-! ### Mode writes (R280) -/

/-- `Leave(i)` (R280). -/
def ccpLeave (i : CcpId) (s : State) : State :=
  let m := ccpMode (s.ccp i)
  if isCompareMode m then
    cancel (.ccpPulse i)
      (t1Recompute { s with t1 := { s.t1 with cmp := s.t1.cmp.filter (fun e => e.1 != i) } })
  else if isPwmMode m then
    let x := s.pwmTimer i
    let s1 := s.setTm x { s.tm x with pwm := (s.tm x).pwm.filter (fun j => j != i) }
    let s2 := cancel (.ccpDb i) (s1.setCcp i { s1.ccp i with dutyArmed := false })
    t2Recompute x (s2.setCcp i { s2.ccp i with dbTarget := none })
  else s

/-- The divisor of a capture mode: 1, 1, 4, 16 (R280). -/
def captureDiv (m : Nat) : Nat :=
  match m with
  | 6 => 4
  | 7 => 16
  | _ => 1

/-- `Enter(i)` (R280, R291). -/
def ccpEnter (i : CcpId) (s : State) : State :=
  let u := s.ccp i
  let m := ccpMode u
  if isCaptureMode m then s.setCcp i { u with capPre := preLoad (captureDiv m) }
  else if isCompareMode m then
    let s1 :=
      if m = 9 then setOutput i 0 .H s
      else if comparesDrive m then setOutput i 0 .L s
      else s
    t1Recompute { s1 with t1 := { s1.t1 with cmp := s1.t1.cmp ++ [(i, ccpr (s1.ccp i))] } }
  else if isPwmMode m then
    let s1 := s.setCcp i { u with out := Vector.replicate 4 .L, mod := .L, dutyArmed := false }
    let x := s1.pwmTimer i
    t2Recompute x (s1.setTm x { s1.tm x with pwm := (s1.tm x).pwm ++ [i] })
  else s

/-- PUT CCPiCON or CCPiTSEL (R280): `new` is the unit's CCPiCON and CCPiTSEL after the write. A write
that changes only MODE[1:0] within 11xx changes MODE, and so leaves and enters. DEDUCED (assumption log 30) -/
def writeCcpMode (w : Wire) (i : CcpId) (con tsel : Byte) (s : State) : State :=
  let u := s.ccp i
  if field con 0 4 = ccpMode u ∧ field con 6 2 = ccpPm u ∧ field tsel 0 2 = ccpPtsel u then
    s.setCcp i { u with con := con, tsel := tsel }
  else
    let s1 := ccpLeave i s
    refresh w i (ccpEnter i (s1.setCcp i { s1.ccp i with con := con, tsel := tsel }))

def writeCcpcon (w : Wire) (i : CcpId) (new : Byte) (s : State) : State := writeCcpMode w i new (s.ccp i).tsel s
def writeCcptsel (w : Wire) (i : CcpId) (new : Byte) (s : State) : State := writeCcpMode w i (s.ccp i).con new s

/-- The compare value of a unit already in `t1_cmp`, set anew in its place (R228, R281). -/
def setCompare (i : CcpId) (v : Half) (l : List (CcpId × Half)) : List (CcpId × Half) :=
  l.map (fun e => if e.1 = i then (i, v) else e)

/-- What follows the store of CCPRiL or CCPRiH (R281). -/
def ccprWritten (i : CcpId) (s : State) : State :=
  let u := s.ccp i
  if isCompareMode (ccpMode u) then
    t1Recompute { s with t1 := { s.t1 with cmp := setCompare i (ccpr u) s.t1.cmp } }
  else s

/-- PUT CCPRiL and CCPRiH (R281). -/
def writeCcprl (i : CcpId) (new : Byte) (s : State) : State := ccprWritten i (s.setCcp i { s.ccp i with rl := new })
def writeCcprh (i : CcpId) (new : Byte) (s : State) : State := ccprWritten i (s.setCcp i { s.ccp i with rh := new })

/-- PUT PWMiCON and CCPiPOL (R282). -/
def writePwmcon (w : Wire) (i : CcpId) (new : Byte) (s : State) : State :=
  refresh w i (s.setCcp i { s.ccp i with pwmcon := new })
def writeCcppol (w : Wire) (i : CcpId) (new : Byte) (s : State) : State :=
  refresh w i (s.setCcp i { s.ccp i with pol := new })

/-! ### Capture and compare -/

/-- A qualifying capture edge (R285). -/
def captureEdge (m : Nat) (old new : Level) : Bool :=
  (m == 4 && isFalling old new) || ((m == 5 || m == 6 || m == 7) && isRising old new)

/-- The CCPi capture-input sink (R285). -/
def captureSink (i : CcpId) (old new : Level) (s : State) : State :=
  let u := s.ccp i
  if captureEdge (ccpMode u) old new then
    let (pre, tick) := preStep u.capPre
    if tick then
      let v := t1Count s
      raiseIF (.ccp i) (s.setCcp i { u with capPre := pre, rl := lowByte v, rh := highByte v })
    else s.setCcp i { u with capPre := pre }
  else s

/-- A compare output toggled (R290). -/
def toggled (l : Level) : Level := if isHigh l then .L else .H

/-- The action of a compare mode (R290). -/
def compareAction (i : CcpId) (s : State) : State :=
  match ccpMode (s.ccp i) with
  | 8 => setOutput i 0 .H s
  | 9 => setOutput i 0 .L s
  | 1 => setOutput i 0 (toggled (s.ccp i).out[0]) s
  | 2 => reschedule (.ccpPulse i) (s.effectCycle + s.cfg.pulseCycles) (setOutput i 0 .H s)
  | 11 => adcStart s
  | _ => s

/-- `CompareMatch(i)` (R290). -/
def compareMatch (w : Wire) (i : CcpId) (s : State) : State :=
  let s1 := raiseIF (.ccp i) (refresh w i (compareAction i s))
  if bit (s1.ccp i).tsel 7 || ccpMode (s1.ccp i) == 11 then t1Clear s1 else s1

/-- The callback of CCPi_PULSE (R292). -/
def ccpPulseCallback (w : Wire) (i : CcpId) (s : State) : State :=
  if ccpMode (s.ccp i) = 2 then refresh w i (setOutput i 0 .L s) else s

/-! ### PWM -/

/-- `PeriodStart(i)` (R295). -/
def periodStart (w : Wire) (i : CcpId) (s : State) : State :=
  let u := s.ccp i
  if u.shutdown then s
  else
    let dc := ccpDuty u
    let pr := (s.tm (s.pwmTimer i)).pr.toNat
    let latch : Bool → State := fun armed => s.setCcp i { u with dcLatched := dc, dutyArmed := armed }
    if dc = 0 then setMod w i .L (latch false)
    else if 4 * (pr + 1) ≤ dc then setMod w i .H (latch false)
    else setMod w i .H (latch true)

/-- `DutyMatch(i)` (R296). -/
def dutyMatch (w : Wire) (i : CcpId) (s : State) : State :=
  setMod w i .L (s.setCcp i { s.ccp i with dutyArmed := false })

/-- The callback of CCPi_DB (R305). -/
def ccpDbCallback (w : Wire) (i : CcpId) (s : State) : State :=
  let u := s.ccp i
  match u.dbTarget with
  | some (k, .H) =>
    if isPwmMode (ccpMode u) && s.steering i == .halfBridge && !u.shutdown then
      refresh w i (s.setCcp i { u with out := u.out.set k .H, dbTarget := none })
    else s.setCcp i { u with dbTarget := none }
  | _ => s.setCcp i { u with dbTarget := none }

end Sys2Proof.Machine
end

