-- ==== Sys2Proof/Machine/TimerEvents.lean ====
section
/-!
DEFINITION. Machine/TimerEvents.lean: the timer events that notify CCP units: Timer1's breakpoint and clock edges
(42_timers.md R225, R226) and the Timer2-family breakpoint (R241).
-/

namespace Sys2Proof.Machine

open Sys2Proof

def T1Kinds.hasCmp (k : T1Kinds) : CcpId → Bool
  | .ccp1 => k.cmp1
  | .ccp2 => k.cmp2

/-- The rollover of Timer1: TMR1IF and the T1_OVF event (R225, R226). -/
def t1Rollover (w : Wire) (s : State) : State := w (.publish .t1Ovf 0 1) (raiseIF .tmr1 s)

/-- The callback of T1_BRK (R225): rollover first, then the compare units whose value is still the fired one. -/
def t1BrkCallback (w : Wire) (s : State) : State :=
  let m := s.t1.breakValue.getD 0
  let kinds := s.t1.breakKind
  let s1 := if kinds.roll then t1Rollover w s else s
  let notify : State → CcpId × Half → State := fun s e =>
    if kinds.hasCmp e.1 && (ccpr (s.ccp e.1)).toNat == m % 65536 then compareMatch w e.1 s else s
  t1Recompute (s1.t1.cmp.foldl notify s1)

/-- Timer1 takes its clock from this sink: T1CKI for CS = 11, T1OSI for CS = 10 (R226). -/
def t1ClockSink (con : Byte) (k : SinkId) : Bool :=
  (t1Cs con == 3 && k == .t1cki) || (t1Cs con == 2 && k == .t1osi)

/-- A T1CKI or T1OSI sink notification (R226). -/
def t1Edge (w : Wire) (k : SinkId) (old new : Level) (s : State) : State :=
  if t1On s.t1.con && t1GateOk s && isRising old new && t1ClockSink s.t1.con k then
    let (pre, tick) := preStep s.t1.pre
    let s1 := { s with t1 := { s.t1 with pre := pre } }
    if tick then
      let s2 := { s1 with t1 := { s1.t1 with held := s1.t1.held + 1 } }
      let s3 := if s2.t1.held = 0 then t1Rollover w s2 else s2
      s3.t1.cmp.foldl (fun s e => if e.2 = s.t1.held then compareMatch w e.1 s else s) s3
    else s1
  else s

/-- A bit of `tx_break_mask` (R39). -/
def maskHas (mask b : Byte) : Bool := mask &&& b != 0

/-- The end of a one-shot or monostable run, a STOP_ZERO (R241, R245). A one-shot clears ON, and with it the
subscription that R237 ties to ON (R186; assumption log 12). -/
def t2EndRun (x : T2Id) (s : State) : State :=
  let t := s.tm x
  let m := t2Policy s.cfg t.hlt
  if hltEndAction m ≠ .stopZero then s
  else if policyEnd m = .oneshot then
    t2Resubscribe x (t2RstWant s.cfg t) (s.setTm x { t with con := setBit t.con 7 false, armed := false })
  else s.setTm x { t with armed := false }

/-- "if ¬(new run condition): `tx_held <- 0`" (R241). -/
def t2RunAfter (x : T2Id) (s : State) : State :=
  if t2RunCond s x then s else s.setTm x { s.tm x with run := false, held := 0 }

/-- The postscaler's step at a period match, and TMRxIF on its tick (R241). -/
def t2Postscale (x : T2Id) (s : State) : State :=
  let (post, tick) := preStep (s.tm x).post
  let s1 := s.setTm x { s.tm x with post := post }
  if tick then raiseIF (.tmrx x) s1 else s1

/-- `A <- A + n · P`: the count becomes 0 (R241). -/
def t2Advance (x : T2Id) (n : Nat) (s : State) : State :=
  let t := s.tm x
  s.setTm x { t with anchor := t.anchor + ((n * t2Div t.con : Nat) : Int) }

/-- The period match (R241). -/
def t2Period (w : Wire) (x : T2Id) (s : State) : State :=
  let s1 := w (.publish .t2Match x.num 1) (t2Advance x ((s.tm x).pr.toNat + 1) s)
  let s2 := t2RunAfter x (t2EndRun x (t2Postscale x s1))
  (s2.tm x).pwm.foldl (fun s i => periodStart w i s) s2

/-- The callback of Tx_BRK (R241): duty matches, then the wrap or the period match. A period match that has another
duty match before it in this cycle waits for that one's event (R239, R480; assumption log 36). -/
def t2BrkCallback (w : Wire) (x : T2Id) (s : State) : State :=
  let mask := (s.tm x).breakMask
  let s1 := (s.tm x).pwm.foldl (fun s i => if maskHas mask (dutyBit i) then dutyMatch w i s else s) s
  if maskHas mask periodBit && t2DutyLeft s1 x then t2Place true x s1
  else
    let s2 := if maskHas mask wrapBit then t2Advance x 256 s1 else s1
    let s3 := if maskHas mask periodBit then t2Period w x s2 else s2
    t2Recompute x s3

end Sys2Proof.Machine
end

