-- ==== Sys2Proof/Machine/Signals.lean ====
section
/-!
DEFINITION. Machine/Signals.lean: `SinkNotify` (41_pins_bus.md R179), `Deliver` (R184), and the wire that carries out
`PinDrive` and `Publish` by calling them, synchronously and depth-first (20_memory.md R91).
-/

namespace Sys2Proof.Machine

open Sys2Proof

/-- `SinkNotify(k, p, old, new)` (R179): the change goes to the owner of the sink. -/
def sinkNotify (w : Wire) (k : SinkId) (p : PinIx) (old new : Level) (s : State) : State :=
  match k with
  | .t0cki => t0Edge w old new s
  | .t1cki => t1Edge w .t1cki old new s
  | .t1osi => t1Edge w .t1osi old new s
  | .t1g => t1GateSink p new s
  | .ccpIn i => captureSink i old new s
  | .clcIn n y => clcSink w n y p new s
  | .ncoclk => ncoClkSink w old new s
  | .ccpShut i => asSink w i p new s
  | .tRst x => t2RstSink x p new s

/-- `Deliver(r, k, s, v)` (R184). -/
def deliver (w : Wire) (r : RecvId) (k : ChanKind) (sub v : Nat) (s : State) : State :=
  match r with
  | .host _ => emit (.recv r k sub v s.cycle) s
  | .t1Gate => t1GateRecv k sub v s
  | .tRst x => t2RstRecv x k sub v s
  | .ccpAs i => asRecv w i k sub v s
  | .clcIn n y => clcRecv w n y k sub v s

/-- The wire with `fuel` levels of nesting left. Every level of nesting is one running `PinDrive` or one running
`Publish`, and each of the two is bounded by `BUS_DEPTH_MAX` (R182, R484), so `signal` never runs out. -/
def wire : Nat → Wire
  | 0 => fun _ s => raiseFault .busDepth s
  | fuel + 1 => fun x s =>
    match x with
    | .drive p => pinDriveWith (sinkNotify (wire fuel)) p s
    | .publish k sub v => publishWith (deliver (wire fuel)) k sub v s

/-- The wire every unit uses. -/
def signal : Wire := fun x s => wire (2 * s.cfg.busDepthMax + 1) x s

end Sys2Proof.Machine
end

