-- ==== Sys2Proof/Machine/Operands.lean ====
section
/-!
DEFINITION. Machine/Operands.lean: the register cells as operands: write masks (30_encoding.md R111), `Read(a)`
(40_scheduler.md R162), the reaction of each cell to a write, and `RegPut` (R160).
-/

namespace Sys2Proof.Machine

open Sys2Proof

/-- `wmask[a]` (R28, R111). -/
def wmask : Reg → Byte
  | .cycle _ | .fault | .oscstat => 0x00
  | .t0stat | .t1stat | .tstat _ | .ccpstat _ | .clcstat _ | .ncostat | .adstat => 0x01
  | .tmr0 | .tmr1l | .tmr1h | .tmr _ | .pr _ | .tcon _ | .thlt _ => 0xFF
  | .t0con => 0xBF
  | .t1con => 0xFD
  | .t1gcon => 0xC3
  | .tclkcon _ => 0x0F
  | .trst _ => 0x1F
  | .ccprl _ | .ccprh _ | .pwmcon _ | .ccpas _ => 0xFF
  | .ccpcon .ccp1 => 0xFF
  | .ccpcon .ccp2 => 0x3F
  | .ccptsel _ => 0xC3
  | .ccppol _ => 0x0F
  | .osccon => 0xFB
  | .osctune => 0x3F
  | .clccon _ => 0xDF
  | .clcpol _ => 0x8F
  | .clcsel _ _ => 0x3F
  | .clcgls _ _ => 0xFF
  | .ncoaccl | .ncoacch | .ncoincl | .ncoinch => 0xFF
  | .ncoaccu => 0x0F
  | .ncocon => 0x91
  | .ncoclk => 0xE3
  | .adresl | .adresh | .adacq => 0xFF
  | .adcon0 => 0x7F
  | .adcon1 => 0xF3

/-! ### Status bits (the RO bits of 10_state.md) -/

/-- Bit `i` of a status byte. -/
def statBit (i : Nat) (b : Bool) : Byte := if b then 1#8 <<< i else 0#8

/-- T1STAT.T1RUN: "reads 1 in either counting state" (R218). -/
def t1Runs (s : State) : Bool := s.t1.run || t1CountsEdges s

/-- T1STAT (R38): TMR1IF, T1GVAL = `gate_ok` and T1RUN (R218). With GE = 0 `gate_ok` holds, so T1STAT reads 0x02 right
after reset, where R38 and R111 write 0x00: the stored bit is 0. DEDUCED (assumption log 37) -/
def t1Stat (s : State) : Byte := statBit 0 s.t1.flag ||| statBit 1 (t1GateOk s) ||| statBit 2 (t1Runs s)

/-- TxSTAT (R43). -/
def tStat (s : State) (x : T2Id) : Byte := statBit 0 (s.tm x).flag ||| statBit 1 (s.tm x).run

/-- CCPxSTAT (R49): CCPxIF and the 0/1 readings of outputs A to D. -/
def ccpStat (u : Ccp) : Byte :=
  statBit 0 u.flag ||| statBit 1 (isHigh u.pin[0]) ||| statBit 2 (isHigh u.pin[1]) |||
    statBit 3 (isHigh u.pin[2]) ||| statBit 4 (isHigh u.pin[3])

/-- NCOCON.OUT: `nco_out XOR POL` (R400). -/
def ncoOutBit (n : Nco) : Bool := n.out != bit n.con 4

/-! ### Reads -/

/-- The value that hardware gives a read-only or synthesised cell; `none` for a cell that reads its stored byte. -/
def readDerived (s : State) : Reg → Option Byte
  | .cycle k => some (s.now.extractLsb' (8 * k) 8)
  | .fault => some s.faults.toByte
  | .tmr0 => some (t0Count s)
  | .t0stat => some (statBit 0 s.t0.flag)
  | .tmr1l => some (lowByte (t1Count s))
  | .tmr1h => some (highByte (t1Count s))
  | .t1stat => some (t1Stat s)
  | .tmr x => some (t2Count s x)
  | .tstat x => some (tStat s x)
  | .ccpstat i => some (ccpStat (s.ccp i))
  | .oscstat => some (oscStat s)
  | .clccon n => some ((s.clc n).con &&& 0xDF ||| statBit 5 (s.clc n).out)
  | .clcstat n => some (statBit 0 (s.clc n).flag)
  | .ncoaccl => some ((accNow s).extractLsb' 0 8)
  | .ncoacch => some ((accNow s).extractLsb' 8 8)
  | .ncoaccu => some (((accNow s).extractLsb' 16 4).setWidth 8)
  | .ncocon => some (s.nco.con &&& 0x91 ||| statBit 5 (ncoOutBit s.nco))
  | .ncostat => some (statBit 0 s.nco.flag)
  | .adstat => some (statBit 0 s.adc.flag)
  | .t0con | .t1con | .t1gcon | .pr _ | .tcon _ | .thlt _ | .tclkcon _ | .trst _ | .ccprl _ | .ccprh _ | .ccpcon _
  | .ccptsel _ | .pwmcon _ | .ccpas _ | .ccppol _ | .osccon | .osctune | .clcpol _ | .clcsel _ _ | .clcgls _ _
  | .ncoincl | .ncoinch | .ncoclk | .adresl | .adresh | .adcon0 | .adcon1 | .adacq => none

/-- The stored byte `reg[a]` of a cell that has one (R9); 0 for a cell whose value is derived. -/
def storedByte (s : State) : Reg → Byte
  | .t0con => s.t0.con
  | .t1con => s.t1.con
  | .t1gcon => s.t1.gcon
  | .pr x => (s.tm x).pr
  | .tcon x => (s.tm x).con
  | .thlt x => (s.tm x).hlt
  | .tclkcon x => (s.tm x).clkcon
  | .trst x => (s.tm x).rst
  | .ccprl i => (s.ccp i).rl
  | .ccprh i => (s.ccp i).rh
  | .ccpcon i => (s.ccp i).con
  | .ccptsel i => (s.ccp i).tsel
  | .pwmcon i => (s.ccp i).pwmcon
  | .ccpas i => (s.ccp i).as
  | .ccppol i => (s.ccp i).pol
  | .osccon => s.osc.con
  | .osctune => s.osc.tune
  | .clcpol n => (s.clc n).pol
  | .clcsel n y => (s.clc n).sel[y]
  | .clcgls n k => (s.clc n).gls[k]
  | .ncoincl => lowByte s.nco.inc
  | .ncoinch => highByte s.nco.inc
  | .ncoclk => s.nco.clk
  | .adresl => s.adc.resl
  | .adresh => s.adc.resh
  | .adcon0 => s.adc.con0
  | .adcon1 => s.adc.con1
  | .adacq => s.adc.acq
  | .cycle _ | .fault | .tmr0 | .t0stat | .tmr1l | .tmr1h | .t1stat | .tmr _ | .tstat _ | .ccpstat _ | .oscstat
  | .clccon _ | .clcstat _ | .ncoaccl | .ncoacch | .ncoaccu | .ncocon | .ncostat | .adstat => 0x00

/-- `Read(a)` (R162): the synthesised or hardware value, else the stored byte; "unimplemented bits 0". -/
def readReg (r : Reg) (s : State) : Byte :=
  match readDerived s r with
  | some v => v
  | none => storedByte s r &&& wmask r

/-! ### Writes -/

/-- `reg[a] <- new; OnWrite(a, old, new)` (R160): the write rule that R111 names for the cell. -/
def onWrite (w : Wire) (r : Reg) (new : Byte) (s : State) : State :=
  match r with
  | .cycle _ => s
  | .fault => s
  | .oscstat => s
  | .tmr0 => writeTmr0 new s
  | .t0con => writeT0con new s
  | .t0stat => putFlag .tmr0 new s
  | .tmr1l => writeTmr1l new s
  | .tmr1h => writeTmr1h new s
  | .t1con => writeT1con new s
  | .t1gcon => writeT1gcon new s
  | .t1stat => putFlag .tmr1 new s
  | .tmr x => writeTmr x new s
  | .pr x => writePr x new s
  | .tcon x => writeTcon x new s
  | .thlt x => writeThlt x new s
  | .tclkcon x => writeTclkcon x new s
  | .trst x => writeTrst x new s
  | .tstat x => putFlag (.tmrx x) new s
  | .ccprl i => writeCcprl i new s
  | .ccprh i => writeCcprh i new s
  | .ccpcon i => writeCcpcon w i new s
  | .ccptsel i => writeCcptsel w i new s
  | .pwmcon i => writePwmcon w i new s
  | .ccpas i => writeCcpas w i new s
  | .ccpstat i => putFlag (.ccp i) new s
  | .ccppol i => writeCcppol w i new s
  | .osccon => writeOsccon w new s
  | .osctune => writeOsctune w new s
  | .clccon n => writeClc w n (storeClccon new) s
  | .clcpol n => writeClc w n (storeClcpol new) s
  | .clcsel n y => writeClc w n (storeClcsel y new) s
  | .clcgls n k => writeClc w n (storeClcgls k new) s
  | .clcstat n => putFlag (.clc n) new s
  | .ncoaccl => writeNco w (storeAccl new) s
  | .ncoacch => writeNco w (storeAcch new) s
  | .ncoaccu => writeNco w (storeAccu new) s
  | .ncoincl => writeNco w (storeIncl new) s
  | .ncoinch => writeNco w (storeInch new) s
  | .ncocon => writeNco w (storeNcocon new) s
  | .ncoclk => writeNco w (storeNcoclk new) s
  | .ncostat => putFlag .nco new s
  | .adresl => { s with adc := { s.adc with resl := new } }
  | .adresh => { s with adc := { s.adc with resh := new } }
  | .adcon0 => writeAdcon0 new s
  | .adcon1 => writeAdcon1 new s
  | .adacq => { s with adc := { s.adc with acq := new } }
  | .adstat => putFlag .adc new s

/-- The byte that a PUT of `v` leaves: `(old & ~wmask) | (v & wmask)` with `old = Read(a)` (R160). -/
def putByte (r : Reg) (v : Byte) (s : State) : Byte := maskMerge (wmask r) (readReg r s) v

/-- `RegPut(a, v)` for a mapped cell (R160). -/
def regPut (r : Reg) (v : Byte) (s : State) : State := onWrite signal r (putByte r v s) s

/-- The fault of a register command on an address that names no cell (R82). -/
def badAddressKind (a : Half) : FaultKind := if unitOf a = 0x0F then .unmodelled else .badReg

end Sys2Proof.Machine
end

