-- ==== Sys2Proof/Machine/ExecBus.lean ====
section
/-!
DEFINITION. Machine/ExecBus.lean: the event-bus commands (41_pins_bus.md R180, R181, R183).
-/

namespace Sys2Proof.Machine

open Sys2Proof

/-- ATTACH (R180). -/
def execAttach (k : ChanKind) (r : RecvId) (s : State) : Result :=
  if r.isHost then .next (s.setSubs k (holdOnce true r (s.subsOf k))) else .next (raiseFault .illegalCmd s)

/-- DETACH (R181). -/
def execDetach (k : ChanKind) (r : RecvId) (s : State) : Result :=
  if r.isHost then .next (s.setSubs k (holdOnce false r (s.subsOf k))) else .next (raiseFault .illegalCmd s)

/-- PUBLISH (R183). -/
def execPublish (k : ChanKind) (sub : Half) (v : Long) (s : State) : Result :=
  .next (signal (.publish k sub.toNat v.toNat) s)

end Sys2Proof.Machine
end

