-- ==== Sys2Proof/Machine/ExecPins.lean ====
section
/-!
DEFINITION. Machine/ExecPins.lean: the pin commands (41_pins_bus.md R170 to R174, R176, R177).
-/

namespace Sys2Proof.Machine

open Sys2Proof

/-- SETSRC (R170). -/
def execSetsrc (p : PinIx) (src : Option SrcId) (s : State) : Result :=
  onPin p s (signal (.drive p) (s.setPin p { s.pins[p] with src := src }))

/-- SETCTL (R171). -/
def execSetctl (p : PinIx) (ctl : Option CtlId) (s : State) : Result :=
  onPin p s (signal (.drive p) (s.setPin p { s.pins[p] with ctl := ctl }))

/-- ADDSINK (R172). "The new sink is not notified of the current level." -/
def execAddsink (p : PinIx) (k : SinkId) (s : State) : Result :=
  if k.hostWired then onPin p s (s.setPin p { s.pins[p] with sinks := holdOnce true k s.pins[p].sinks })
  else .next (raiseFault .illegalCmd s)

/-- RMSINK (R173). -/
def execRmsink (p : PinIx) (k : SinkId) (s : State) : Result :=
  if k.hostWired then onPin p s (s.setPin p { s.pins[p] with sinks := holdOnce false k s.pins[p].sinks })
  else .next (raiseFault .illegalCmd s)

/-- UPDPIN (R174). -/
def execUpdpin (p : PinIx) (s : State) : Result := onPin p s (signal (.drive p) s)

/-- DRIVE (R176). -/
def execDrive (p : PinIx) (l : Level) (s : State) : Result :=
  onPin p s (signal (.drive p) (s.setPin p { s.pins[p] with ext := l }))

/-- PINRD (R177): 0 = L, 1 = H, 2 = Z. -/
def execPinrd (p : PinIx) (s : State) : Result := onPin p s (emit (.reply s.pins[p].lvl.code) s)

end Sys2Proof.Machine
end

