-- ==== Sys2Proof/WellFormed.lean ====
section
/-!
DEFINITION. WellFormed.lean: the commands the host may send (30_encoding.md R105, R112, R114, R115) and the
configurations a block may be built from (60_exceptions.md R444).
-/

namespace Sys2Proof

/-- A well-formed command: the operand checks of R105 that the operand types do not already make. Every other
constructor has an encoding at every value of its operands. -/
def Instr.wf : Instr → Bool
  | .sched t _ => t.isExt
  | .cancel t => t.isExt
  | .resched t _ => t.isExt
  | .addsink _ k => k.hostWired
  | .rmsink _ k => k.hostWired
  | .attach _ r => r.isHost
  | .detach _ r => r.isHost
  | .put _ a => (regOfAddr a).isNone
  | _ => true

/-- A valid table entry: "every pin named in a table is `< N_PIN`", and a sub-code is 16 bits wide (R444, R116, R81). -/
def SigDesc.wf (nPin : Nat) : SigDesc → Bool
  | .pin p => decide (p.val < nPin)
  | .bus _ sub => decide (sub < 2 ^ 16)
  | .low => true
  | .refused => true

/-- The instance counts that the model can have (R7; assumption log 8). -/
def Cfg.countsOk (c : Cfg) : Bool :=
  c.nCcp == 2 && c.nClc == 4 && c.nNco == 1 && decide (c.nPin ≤ 32) && decide (c.nAdcCh ≤ 32)

/-- The well-formedness conditions on `Cfg` (R444): "A model is constructed only from a well-formed `Cfg`". Beside those
that R444, R7, R42, R48 and R52 state, the model asks that `ADC_FRC_TAD_CYCLES`, `FSEC_HZ` and every `TUNE_FACTOR` be
positive and that the tables whose length R444 does not give have the one their index field reaches. DESIGN CHOICE
(assumption log 35) -/
def Cfg.wf (c : Cfg) : Bool :=
  c.countsOk &&
  c.clcInputTable.all (fun t => t.all (SigDesc.wf c.nPin)) && c.t1GateTable.all (SigDesc.wf c.nPin) &&
  c.t2RstTable.all (SigDesc.wf c.nPin) && c.ccpAsTable.all (SigDesc.wf c.nPin) &&
  c.clcInputTable.length == 4 && c.clcInputTable.all (fun t => t.length == 64) &&
  c.t1GateTable.length == 4 &&
  c.t2ClkTable.length == 16 && c.t2ClkTable.take 3 == [.fosc4, .fosc, .intRc] &&
  c.t2RstTable.length == 32 && c.ccpAsTable.length == 8 && c.ccpAsTable.head? == some .low &&
  c.hltTable.length == 32 &&
  c.ircfTable.length == 16 && c.ircfTable.all (fun e => decide (0 < e.1)) &&
  c.tuneFactor.length == 64 && c.tuneFactor.all (fun f => decide (0 < f)) && c.tuneFactor.head? == some 1 &&
  decide (0 < c.ostCycles) && decide (0 < c.settleCycles) && decide (0 < c.busDepthMax) &&
  decide (0 < c.foscExtHz) && decide (0 < c.fsecHz) && decide (0 < c.adcFrcTad) &&
  decide (1 ≤ c.adcBits) && decide (c.adcBits ≤ 16)

end Sys2Proof
end

