-- ==== Sys2Proof/Machine/Power.lean ====
section
/-!
DEFINITION. Machine/Power.lean: sleep and wake (60_exceptions.md R455, R456) and the full reset
(70_reset_and_hazards.md R470 to R472).
-/

namespace Sys2Proof.Machine

open Sys2Proof

/-! ### Sleep (R455) -/

/-- Timer0's stop transition, if it ran with count `v`. -/
def sleepT0 (ran : Bool) (v : Byte) (s : State) : State := if ran then t0Stop v s else s

/-- Timer1's stop transition, `T1Update(V)`. -/
def sleepT1 (ran : Bool) (v : Half) (s : State) : State := if ran then t1Update v s else s

/-- A Timer2-family instance's stop transition, `T2Update(x, V)`. -/
def sleepT2 (x : T2Id) (ran : Bool) (v : Byte) (s : State) : State := if ran then t2Update x v s else s

/-- SLEEP in a block that is awake (R455): every count is read, and the NCO brought up to date, under the configuration
before `sleeping` is set; then the stop transitions, in the order Timer0, Timer1, Timer2, Timer4, Timer6, NCO. -/
def goToSleep (s : State) : State :=
  let s0 := { ncoSync s with sleeping := true }
  let s1 := sleepT0 s.t0.run (t0Count s) s0
  let s2 := sleepT1 s.t1.run (t1Count s) s1
  let s3 := sleepT2 .t2 s.t2.run (t2Count s .t2) s2
  let s4 := sleepT2 .t4 s.t4.run (t2Count s .t4) s3
  let s5 := sleepT2 .t6 s.t6.run (t2Count s .t6) s4
  if ncoRun s then cancel .ncoOvf s5 else s5

/-! ### Wake (R456) -/

/-- Timer0's start transition from its held count, if it runs now. -/
def wakeT0 (s : State) : State := if t0RunCond s then t0Start s.t0.held s else s

def wakeT1 (s : State) : State := if t1RunCond s then t1Update s.t1.held s else s

def wakeT2 (x : T2Id) (s : State) : State := if t2RunCond s x then t2Update x (s.tm x).held s else s

/-- The NCO's start transition: `nco_anchor <- tin(now)`, `NcoRecompute()`. -/
def wakeNco (s : State) : State := if ncoRun s then ncoRecompute (ncoReanchor s) else s

/-- WAKE in a sleeping block (R456): the frozen counters start from their held counts, then `OscDerive()`. A counter that
was configured to run while the block slept starts here too (assumption log 15). The instances of the Timer2 family start
in the order Timer2, Timer4, Timer6: DESIGN CHOICE (assumption log 34) -/
def wakeUp (s : State) : State :=
  let s0 := { s with sleeping := false }
  oscDerive signal (wakeNco (wakeT2 .t6 (wakeT2 .t4 (wakeT2 .t2 (wakeT1 (wakeT0 s0))))))

/-! ### Reset (R470, R471) -/

/-- A pin module after a reset: the wiring and the observable level are kept, the peripheral-managed sinks dropped, and
`ext[p] <- Z` (R470, R471). -/
def resetPin (m : Pin) : Pin := { m with sinks := m.sinks.filter SinkId.hostWired, ext := .Z }

/-- Everything that RESET sets before the oscillator's derivation (R470): a blank block of the same configuration that
keeps the wiring of R471, the log, the host's voltages, and the commands not yet taken. -/
def resetBase (s : State) : State :=
  { State.blank s.cfg with
    cmds := s.cmds
    out := s.out
    pins := s.pins.map resetPin
    subs := s.subs.map (fun l => l.filter RecvId.isHost)
    vin := s.vin
    vrefhi := s.vrefhi
    vreflo := s.vreflo }

/-- "for p in 0 .. N_PIN − 1: PinDrive(p)" (R470). -/
def driveAllPins (s : State) : State := s.allPins.foldl (fun s p => signal (.drive p) s) s

/-- RESET (R470). -/
def resetBlock (s : State) : State := driveAllPins (oscDerive signal (resetBase s))

/-- Construction (R472): "the state RESET gives from empty wiring". "A model is constructed only from a well-formed `Cfg`
(it refuses the others)" (R444). -/
def State.construct (cfg : Cfg) : Option State := if cfg.wf then some (resetBlock (State.blank cfg)) else none

end Sys2Proof.Machine
end

