-- ==== Sys2Proof/Machine/ExecPower.lean ====
section
/-!
DEFINITION. Machine/ExecPower.lean: SLEEP, WAKE (60_exceptions.md R455, R456) and RESET (70_reset_and_hazards.md R470).
-/

namespace Sys2Proof.Machine

open Sys2Proof

/-- SLEEP (R455). -/
def execSleep (s : State) : Result := if s.sleeping then .next s else .next (goToSleep s)

/-- WAKE (R456). -/
def execWake (s : State) : Result := if s.sleeping then .next (wakeUp s) else .next s

/-- RESET (R470). -/
def execReset (s : State) : Result := .next (resetBlock s)

end Sys2Proof.Machine
end

