-- ==== Sys2Proof/Machine/ExecPutAdc.lean ====
section
/-!
DEFINITION. Machine/ExecPutAdc.lean: PUT to the ADC registers (46_nco_angular_adc.md R420; ADRESL, ADRESH and ADACQ
are plain stores, 40_scheduler.md R160) and its flag register (60_exceptions.md R441). Each is `RegPut` of its cell
(40_scheduler.md R160): the write-mask merge with `Read(a)`, then the cell's write rule.
-/

namespace Sys2Proof.Machine

open Sys2Proof

/-- PUT ADRESL (40_scheduler.md R160). -/
def execPutAdresl (v : Byte) (s : State) : Result := .next (regPut (.adresl) v s)

/-- PUT ADRESH (40_scheduler.md R160). -/
def execPutAdresh (v : Byte) (s : State) : Result := .next (regPut (.adresh) v s)

/-- PUT ADCON0 (46_nco_angular_adc.md R420). -/
def execPutAdcon0 (v : Byte) (s : State) : Result := .next (regPut (.adcon0) v s)

/-- PUT ADCON1 (46_nco_angular_adc.md R420). -/
def execPutAdcon1 (v : Byte) (s : State) : Result := .next (regPut (.adcon1) v s)

/-- PUT ADACQ (40_scheduler.md R160). -/
def execPutAdacq (v : Byte) (s : State) : Result := .next (regPut (.adacq) v s)

/-- PUT ADSTAT (60_exceptions.md R441). -/
def execPutAdstat (v : Byte) (s : State) : Result := .next (regPut (.adstat) v s)

end Sys2Proof.Machine
end

