-- ==== Sys2Proof/Machine/ExecPutCcp.lean ====
section
/-!
DEFINITION. Machine/ExecPutCcp.lean: PUT to the CCP registers (43_ccp.md R280 to R282, R310) and their flag registers
(60_exceptions.md R441). Each is `RegPut` of its cell (40_scheduler.md R160): the write-mask merge with `Read(a)`,
then the cell's write rule.
-/

namespace Sys2Proof.Machine

open Sys2Proof

/-- PUT CCPR1L (43_ccp.md R281). -/
def execPutCcpr1l (v : Byte) (s : State) : Result := .next (regPut (.ccprl .ccp1) v s)

/-- PUT CCPR1H (43_ccp.md R281). -/
def execPutCcpr1h (v : Byte) (s : State) : Result := .next (regPut (.ccprh .ccp1) v s)

/-- PUT CCP1CON (43_ccp.md R280). -/
def execPutCcp1con (v : Byte) (s : State) : Result := .next (regPut (.ccpcon .ccp1) v s)

/-- PUT CCP1TSEL (43_ccp.md R280). -/
def execPutCcp1tsel (v : Byte) (s : State) : Result := .next (regPut (.ccptsel .ccp1) v s)

/-- PUT PWM1CON (43_ccp.md R282). -/
def execPutPwm1con (v : Byte) (s : State) : Result := .next (regPut (.pwmcon .ccp1) v s)

/-- PUT CCP1AS (43_ccp.md R310). -/
def execPutCcp1as (v : Byte) (s : State) : Result := .next (regPut (.ccpas .ccp1) v s)

/-- PUT CCP1STAT (60_exceptions.md R441). -/
def execPutCcp1stat (v : Byte) (s : State) : Result := .next (regPut (.ccpstat .ccp1) v s)

/-- PUT CCP1POL (43_ccp.md R282). -/
def execPutCcp1pol (v : Byte) (s : State) : Result := .next (regPut (.ccppol .ccp1) v s)

/-- PUT CCPR2L (43_ccp.md R281). -/
def execPutCcpr2l (v : Byte) (s : State) : Result := .next (regPut (.ccprl .ccp2) v s)

/-- PUT CCPR2H (43_ccp.md R281). -/
def execPutCcpr2h (v : Byte) (s : State) : Result := .next (regPut (.ccprh .ccp2) v s)

/-- PUT CCP2CON (43_ccp.md R280). -/
def execPutCcp2con (v : Byte) (s : State) : Result := .next (regPut (.ccpcon .ccp2) v s)

/-- PUT CCP2TSEL (43_ccp.md R280). -/
def execPutCcp2tsel (v : Byte) (s : State) : Result := .next (regPut (.ccptsel .ccp2) v s)

/-- PUT PWM2CON (43_ccp.md R282). -/
def execPutPwm2con (v : Byte) (s : State) : Result := .next (regPut (.pwmcon .ccp2) v s)

/-- PUT CCP2AS (43_ccp.md R310). -/
def execPutCcp2as (v : Byte) (s : State) : Result := .next (regPut (.ccpas .ccp2) v s)

/-- PUT CCP2STAT (60_exceptions.md R441). -/
def execPutCcp2stat (v : Byte) (s : State) : Result := .next (regPut (.ccpstat .ccp2) v s)

/-- PUT CCP2POL (43_ccp.md R282). -/
def execPutCcp2pol (v : Byte) (s : State) : Result := .next (regPut (.ccppol .ccp2) v s)

end Sys2Proof.Machine
end

