-- ==== Sys2Proof/Machine/ExecPutClc.lean ====
section
/-!
DEFINITION. Machine/ExecPutClc.lean: PUT to the CLC registers (45_clc.md R370) and their flag registers
(60_exceptions.md R441). Each is `RegPut` of its cell (40_scheduler.md R160): the write-mask merge with `Read(a)`,
then the cell's write rule.
-/

namespace Sys2Proof.Machine

open Sys2Proof

/-- PUT CLC1CON (45_clc.md R370). -/
def execPutClc1con (v : Byte) (s : State) : Result := .next (regPut (.clccon .clc1) v s)

/-- PUT CLC1POL (45_clc.md R370). -/
def execPutClc1pol (v : Byte) (s : State) : Result := .next (regPut (.clcpol .clc1) v s)

/-- PUT CLC1SEL0 (45_clc.md R370). -/
def execPutClc1sel0 (v : Byte) (s : State) : Result := .next (regPut (.clcsel .clc1 0) v s)

/-- PUT CLC1SEL1 (45_clc.md R370). -/
def execPutClc1sel1 (v : Byte) (s : State) : Result := .next (regPut (.clcsel .clc1 1) v s)

/-- PUT CLC1SEL2 (45_clc.md R370). -/
def execPutClc1sel2 (v : Byte) (s : State) : Result := .next (regPut (.clcsel .clc1 2) v s)

/-- PUT CLC1SEL3 (45_clc.md R370). -/
def execPutClc1sel3 (v : Byte) (s : State) : Result := .next (regPut (.clcsel .clc1 3) v s)

/-- PUT CLC1GLS0 (45_clc.md R370). -/
def execPutClc1gls0 (v : Byte) (s : State) : Result := .next (regPut (.clcgls .clc1 0) v s)

/-- PUT CLC1GLS1 (45_clc.md R370). -/
def execPutClc1gls1 (v : Byte) (s : State) : Result := .next (regPut (.clcgls .clc1 1) v s)

/-- PUT CLC1GLS2 (45_clc.md R370). -/
def execPutClc1gls2 (v : Byte) (s : State) : Result := .next (regPut (.clcgls .clc1 2) v s)

/-- PUT CLC1GLS3 (45_clc.md R370). -/
def execPutClc1gls3 (v : Byte) (s : State) : Result := .next (regPut (.clcgls .clc1 3) v s)

/-- PUT CLC1STAT (60_exceptions.md R441). -/
def execPutClc1stat (v : Byte) (s : State) : Result := .next (regPut (.clcstat .clc1) v s)

/-- PUT CLC2CON (45_clc.md R370). -/
def execPutClc2con (v : Byte) (s : State) : Result := .next (regPut (.clccon .clc2) v s)

/-- PUT CLC2POL (45_clc.md R370). -/
def execPutClc2pol (v : Byte) (s : State) : Result := .next (regPut (.clcpol .clc2) v s)

/-- PUT CLC2SEL0 (45_clc.md R370). -/
def execPutClc2sel0 (v : Byte) (s : State) : Result := .next (regPut (.clcsel .clc2 0) v s)

/-- PUT CLC2SEL1 (45_clc.md R370). -/
def execPutClc2sel1 (v : Byte) (s : State) : Result := .next (regPut (.clcsel .clc2 1) v s)

/-- PUT CLC2SEL2 (45_clc.md R370). -/
def execPutClc2sel2 (v : Byte) (s : State) : Result := .next (regPut (.clcsel .clc2 2) v s)

/-- PUT CLC2SEL3 (45_clc.md R370). -/
def execPutClc2sel3 (v : Byte) (s : State) : Result := .next (regPut (.clcsel .clc2 3) v s)

/-- PUT CLC2GLS0 (45_clc.md R370). -/
def execPutClc2gls0 (v : Byte) (s : State) : Result := .next (regPut (.clcgls .clc2 0) v s)

/-- PUT CLC2GLS1 (45_clc.md R370). -/
def execPutClc2gls1 (v : Byte) (s : State) : Result := .next (regPut (.clcgls .clc2 1) v s)

/-- PUT CLC2GLS2 (45_clc.md R370). -/
def execPutClc2gls2 (v : Byte) (s : State) : Result := .next (regPut (.clcgls .clc2 2) v s)

/-- PUT CLC2GLS3 (45_clc.md R370). -/
def execPutClc2gls3 (v : Byte) (s : State) : Result := .next (regPut (.clcgls .clc2 3) v s)

/-- PUT CLC2STAT (60_exceptions.md R441). -/
def execPutClc2stat (v : Byte) (s : State) : Result := .next (regPut (.clcstat .clc2) v s)

/-- PUT CLC3CON (45_clc.md R370). -/
def execPutClc3con (v : Byte) (s : State) : Result := .next (regPut (.clccon .clc3) v s)

/-- PUT CLC3POL (45_clc.md R370). -/
def execPutClc3pol (v : Byte) (s : State) : Result := .next (regPut (.clcpol .clc3) v s)

/-- PUT CLC3SEL0 (45_clc.md R370). -/
def execPutClc3sel0 (v : Byte) (s : State) : Result := .next (regPut (.clcsel .clc3 0) v s)

/-- PUT CLC3SEL1 (45_clc.md R370). -/
def execPutClc3sel1 (v : Byte) (s : State) : Result := .next (regPut (.clcsel .clc3 1) v s)

/-- PUT CLC3SEL2 (45_clc.md R370). -/
def execPutClc3sel2 (v : Byte) (s : State) : Result := .next (regPut (.clcsel .clc3 2) v s)

/-- PUT CLC3SEL3 (45_clc.md R370). -/
def execPutClc3sel3 (v : Byte) (s : State) : Result := .next (regPut (.clcsel .clc3 3) v s)

/-- PUT CLC3GLS0 (45_clc.md R370). -/
def execPutClc3gls0 (v : Byte) (s : State) : Result := .next (regPut (.clcgls .clc3 0) v s)

/-- PUT CLC3GLS1 (45_clc.md R370). -/
def execPutClc3gls1 (v : Byte) (s : State) : Result := .next (regPut (.clcgls .clc3 1) v s)

/-- PUT CLC3GLS2 (45_clc.md R370). -/
def execPutClc3gls2 (v : Byte) (s : State) : Result := .next (regPut (.clcgls .clc3 2) v s)

/-- PUT CLC3GLS3 (45_clc.md R370). -/
def execPutClc3gls3 (v : Byte) (s : State) : Result := .next (regPut (.clcgls .clc3 3) v s)

/-- PUT CLC3STAT (60_exceptions.md R441). -/
def execPutClc3stat (v : Byte) (s : State) : Result := .next (regPut (.clcstat .clc3) v s)

/-- PUT CLC4CON (45_clc.md R370). -/
def execPutClc4con (v : Byte) (s : State) : Result := .next (regPut (.clccon .clc4) v s)

/-- PUT CLC4POL (45_clc.md R370). -/
def execPutClc4pol (v : Byte) (s : State) : Result := .next (regPut (.clcpol .clc4) v s)

/-- PUT CLC4SEL0 (45_clc.md R370). -/
def execPutClc4sel0 (v : Byte) (s : State) : Result := .next (regPut (.clcsel .clc4 0) v s)

/-- PUT CLC4SEL1 (45_clc.md R370). -/
def execPutClc4sel1 (v : Byte) (s : State) : Result := .next (regPut (.clcsel .clc4 1) v s)

/-- PUT CLC4SEL2 (45_clc.md R370). -/
def execPutClc4sel2 (v : Byte) (s : State) : Result := .next (regPut (.clcsel .clc4 2) v s)

/-- PUT CLC4SEL3 (45_clc.md R370). -/
def execPutClc4sel3 (v : Byte) (s : State) : Result := .next (regPut (.clcsel .clc4 3) v s)

/-- PUT CLC4GLS0 (45_clc.md R370). -/
def execPutClc4gls0 (v : Byte) (s : State) : Result := .next (regPut (.clcgls .clc4 0) v s)

/-- PUT CLC4GLS1 (45_clc.md R370). -/
def execPutClc4gls1 (v : Byte) (s : State) : Result := .next (regPut (.clcgls .clc4 1) v s)

/-- PUT CLC4GLS2 (45_clc.md R370). -/
def execPutClc4gls2 (v : Byte) (s : State) : Result := .next (regPut (.clcgls .clc4 2) v s)

/-- PUT CLC4GLS3 (45_clc.md R370). -/
def execPutClc4gls3 (v : Byte) (s : State) : Result := .next (regPut (.clcgls .clc4 3) v s)

/-- PUT CLC4STAT (60_exceptions.md R441). -/
def execPutClc4stat (v : Byte) (s : State) : Result := .next (regPut (.clcstat .clc4) v s)

end Sys2Proof.Machine
end

