-- ==== Sys2Proof/Machine/ExecPutCore.lean ====
section
/-!
DEFINITION. Machine/ExecPutCore.lean: PUT to the CYCLE and FAULT registers (10_state.md R62): "A register whose write
rule is "no effect" (CYCLE0-7, FAULT, OSCSTAT)" (40_scheduler.md R160). Each is `RegPut` of its cell (40_scheduler.md
R160): the write-mask merge with `Read(a)`, then the cell's write rule.
-/

namespace Sys2Proof.Machine

open Sys2Proof

/-- PUT CYCLE0 (40_scheduler.md R160). -/
def execPutCycle0 (v : Byte) (s : State) : Result := .next (regPut (.cycle 0) v s)

/-- PUT CYCLE1 (40_scheduler.md R160). -/
def execPutCycle1 (v : Byte) (s : State) : Result := .next (regPut (.cycle 1) v s)

/-- PUT CYCLE2 (40_scheduler.md R160). -/
def execPutCycle2 (v : Byte) (s : State) : Result := .next (regPut (.cycle 2) v s)

/-- PUT CYCLE3 (40_scheduler.md R160). -/
def execPutCycle3 (v : Byte) (s : State) : Result := .next (regPut (.cycle 3) v s)

/-- PUT CYCLE4 (40_scheduler.md R160). -/
def execPutCycle4 (v : Byte) (s : State) : Result := .next (regPut (.cycle 4) v s)

/-- PUT CYCLE5 (40_scheduler.md R160). -/
def execPutCycle5 (v : Byte) (s : State) : Result := .next (regPut (.cycle 5) v s)

/-- PUT CYCLE6 (40_scheduler.md R160). -/
def execPutCycle6 (v : Byte) (s : State) : Result := .next (regPut (.cycle 6) v s)

/-- PUT CYCLE7 (40_scheduler.md R160). -/
def execPutCycle7 (v : Byte) (s : State) : Result := .next (regPut (.cycle 7) v s)

/-- PUT FAULT (40_scheduler.md R160). -/
def execPutFault (v : Byte) (s : State) : Result := .next (regPut (.fault) v s)

end Sys2Proof.Machine
end

