-- ==== Sys2Proof/Machine/ExecPutNco.lean ====
section
/-!
DEFINITION. Machine/ExecPutNco.lean: PUT to the NCO registers (46_nco_angular_adc.md R401) and its flag register
(60_exceptions.md R441). Each is `RegPut` of its cell (40_scheduler.md R160): the write-mask merge with `Read(a)`,
then the cell's write rule.
-/

namespace Sys2Proof.Machine

open Sys2Proof

/-- PUT NCOACCL (46_nco_angular_adc.md R401). -/
def execPutNcoaccl (v : Byte) (s : State) : Result := .next (regPut (.ncoaccl) v s)

/-- PUT NCOACCH (46_nco_angular_adc.md R401). -/
def execPutNcoacch (v : Byte) (s : State) : Result := .next (regPut (.ncoacch) v s)

/-- PUT NCOACCU (46_nco_angular_adc.md R401). -/
def execPutNcoaccu (v : Byte) (s : State) : Result := .next (regPut (.ncoaccu) v s)

/-- PUT NCOINCL (46_nco_angular_adc.md R401). -/
def execPutNcoincl (v : Byte) (s : State) : Result := .next (regPut (.ncoincl) v s)

/-- PUT NCOINCH (46_nco_angular_adc.md R401). -/
def execPutNcoinch (v : Byte) (s : State) : Result := .next (regPut (.ncoinch) v s)

/-- PUT NCOCON (46_nco_angular_adc.md R401). -/
def execPutNcocon (v : Byte) (s : State) : Result := .next (regPut (.ncocon) v s)

/-- PUT NCOCLK (46_nco_angular_adc.md R401). -/
def execPutNcoclk (v : Byte) (s : State) : Result := .next (regPut (.ncoclk) v s)

/-- PUT NCOSTAT (60_exceptions.md R441). -/
def execPutNcostat (v : Byte) (s : State) : Result := .next (regPut (.ncostat) v s)

end Sys2Proof.Machine
end

