-- ==== Sys2Proof/Machine/ExecPutOsc.lean ====
section
/-!
DEFINITION. Machine/ExecPutOsc.lean: PUT to the oscillator registers (44_oscillator.md R342). Each is `RegPut` of its
cell (40_scheduler.md R160): the write-mask merge with `Read(a)`, then the cell's write rule.
-/

namespace Sys2Proof.Machine

open Sys2Proof

/-- PUT OSCCON (44_oscillator.md R342). -/
def execPutOsccon (v : Byte) (s : State) : Result := .next (regPut (.osccon) v s)

/-- PUT OSCTUNE (44_oscillator.md R342). -/
def execPutOsctune (v : Byte) (s : State) : Result := .next (regPut (.osctune) v s)

/-- PUT OSCSTAT (40_scheduler.md R160). -/
def execPutOscstat (v : Byte) (s : State) : Result := .next (regPut (.oscstat) v s)

end Sys2Proof.Machine
end

