-- ==== Sys2Proof/Machine/ExecPutTimers.lean ====
section
/-!
DEFINITION. Machine/ExecPutTimers.lean: PUT to the timer registers (42_timers.md R213 to R237) and their flag
registers (60_exceptions.md R441). Each is `RegPut` of its cell (40_scheduler.md R160): the write-mask merge with
`Read(a)`, then the cell's write rule.
-/

namespace Sys2Proof.Machine

open Sys2Proof

/-- PUT TMR0 (42_timers.md R213). -/
def execPutTmr0 (v : Byte) (s : State) : Result := .next (regPut (.tmr0) v s)

/-- PUT T0CON (42_timers.md R214). -/
def execPutT0con (v : Byte) (s : State) : Result := .next (regPut (.t0con) v s)

/-- PUT T0STAT (60_exceptions.md R441). -/
def execPutT0stat (v : Byte) (s : State) : Result := .next (regPut (.t0stat) v s)

/-- PUT TMR1L (42_timers.md R222). -/
def execPutTmr1l (v : Byte) (s : State) : Result := .next (regPut (.tmr1l) v s)

/-- PUT TMR1H (42_timers.md R222). -/
def execPutTmr1h (v : Byte) (s : State) : Result := .next (regPut (.tmr1h) v s)

/-- PUT T1CON (42_timers.md R223). -/
def execPutT1con (v : Byte) (s : State) : Result := .next (regPut (.t1con) v s)

/-- PUT T1GCON (42_timers.md R224). -/
def execPutT1gcon (v : Byte) (s : State) : Result := .next (regPut (.t1gcon) v s)

/-- PUT T1STAT (60_exceptions.md R441). -/
def execPutT1stat (v : Byte) (s : State) : Result := .next (regPut (.t1stat) v s)

/-- PUT TMR2 (42_timers.md R234). -/
def execPutTmr2 (v : Byte) (s : State) : Result := .next (regPut (.tmr .t2) v s)

/-- PUT PR2 (42_timers.md R235). -/
def execPutPr2 (v : Byte) (s : State) : Result := .next (regPut (.pr .t2) v s)

/-- PUT T2CON (42_timers.md R236). -/
def execPutT2con (v : Byte) (s : State) : Result := .next (regPut (.tcon .t2) v s)

/-- PUT T2HLT (42_timers.md R237). -/
def execPutT2hlt (v : Byte) (s : State) : Result := .next (regPut (.thlt .t2) v s)

/-- PUT T2CLKCON (42_timers.md R236). -/
def execPutT2clkcon (v : Byte) (s : State) : Result := .next (regPut (.tclkcon .t2) v s)

/-- PUT T2RST (42_timers.md R237). -/
def execPutT2rst (v : Byte) (s : State) : Result := .next (regPut (.trst .t2) v s)

/-- PUT T2STAT (60_exceptions.md R441). -/
def execPutT2stat (v : Byte) (s : State) : Result := .next (regPut (.tstat .t2) v s)

/-- PUT TMR4 (42_timers.md R234). -/
def execPutTmr4 (v : Byte) (s : State) : Result := .next (regPut (.tmr .t4) v s)

/-- PUT PR4 (42_timers.md R235). -/
def execPutPr4 (v : Byte) (s : State) : Result := .next (regPut (.pr .t4) v s)

/-- PUT T4CON (42_timers.md R236). -/
def execPutT4con (v : Byte) (s : State) : Result := .next (regPut (.tcon .t4) v s)

/-- PUT T4HLT (42_timers.md R237). -/
def execPutT4hlt (v : Byte) (s : State) : Result := .next (regPut (.thlt .t4) v s)

/-- PUT T4CLKCON (42_timers.md R236). -/
def execPutT4clkcon (v : Byte) (s : State) : Result := .next (regPut (.tclkcon .t4) v s)

/-- PUT T4RST (42_timers.md R237). -/
def execPutT4rst (v : Byte) (s : State) : Result := .next (regPut (.trst .t4) v s)

/-- PUT T4STAT (60_exceptions.md R441). -/
def execPutT4stat (v : Byte) (s : State) : Result := .next (regPut (.tstat .t4) v s)

/-- PUT TMR6 (42_timers.md R234). -/
def execPutTmr6 (v : Byte) (s : State) : Result := .next (regPut (.tmr .t6) v s)

/-- PUT PR6 (42_timers.md R235). -/
def execPutPr6 (v : Byte) (s : State) : Result := .next (regPut (.pr .t6) v s)

/-- PUT T6CON (42_timers.md R236). -/
def execPutT6con (v : Byte) (s : State) : Result := .next (regPut (.tcon .t6) v s)

/-- PUT T6HLT (42_timers.md R237). -/
def execPutT6hlt (v : Byte) (s : State) : Result := .next (regPut (.thlt .t6) v s)

/-- PUT T6CLKCON (42_timers.md R236). -/
def execPutT6clkcon (v : Byte) (s : State) : Result := .next (regPut (.tclkcon .t6) v s)

/-- PUT T6RST (42_timers.md R237). -/
def execPutT6rst (v : Byte) (s : State) : Result := .next (regPut (.trst .t6) v s)

/-- PUT T6STAT (60_exceptions.md R441). -/
def execPutT6stat (v : Byte) (s : State) : Result := .next (regPut (.tstat .t6) v s)

end Sys2Proof.Machine
end

