-- ==== Sys2Proof/Machine/ExecRegs.lean ====
section
/-!
DEFINITION. Machine/ExecRegs.lean: PUT by address, GET and GETV (40_scheduler.md R160 to R162), SETV
(46_nco_angular_adc.md R427) and GETFREQ (44_oscillator.md R349).
-/

namespace Sys2Proof.Machine

open Sys2Proof

/-- PUT (R160). -/
def execPut (v : Byte) (a : Half) (s : State) : Result :=
  match regOfAddr a with
  | some r => .next (regPut r v s)
  | none => .next (raiseFault (badAddressKind a) s)

/-- GET (R161): "reading a flag does not clear it". -/
def execGet (a : Half) (s : State) : Result :=
  match regOfAddr a with
  | some r => .next (emit (.reply (readReg r s).toNat) s)
  | none => .next (raiseFault (badAddressKind a) s)

/-- GETV (R162), "a pure read". -/
def execGetv (a : Half) (s : State) : Result :=
  match regOfAddr a with
  | some r => .next (emit (.reply (readReg r s).toNat) s)
  | none => .next (raiseFault (badAddressKind a) s)

/-- The voltage of a SETV argument, `ARG / 10^6` volts, signed (R103). -/
def microvolts (uv : Long) : Rat := mkRat uv.toInt 1000000

/-- SETV (R427). "an ADC channel `≥ N_ADC_CH`" is illegal (R105). -/
def execSetv (ch : AdcInput) (uv : Long) (s : State) : Result :=
  match ch with
  | .chan c =>
    if c.val < s.cfg.nAdcCh then .next { s with vin := s.vin.set c (microvolts uv) }
    else .next (raiseFault .illegalCmd s)
  | .vrefHi => .next { s with vrefhi := microvolts uv }
  | .vrefLo => .next { s with vreflo := microvolts uv }

/-- GETFREQ (R349). -/
def execGetfreq (s : State) : Result := .next (emit (.reply (hertz s.osc.fEff)) s)

end Sys2Proof.Machine
end

