-- ==== Sys2Proof/Machine/Sched.lean ====
section
/-!
DEFINITION. Machine/Sched.lean: the callbacks (40_scheduler.md R138) and the firing loop of `Advance` (R136, R142).
-/

namespace Sys2Proof.Machine

open Sys2Proof

/-- `Callback(t, c)` (R138); `c` is `State.effectCycle`, which `fireEvent` sets. -/
def callback (t : TrigId) (s : State) : State :=
  match t with
  | .t0Ovf => t0OvfCallback signal s
  | .t1Brk => t1BrkCallback signal s
  | .tBrk x => t2BrkCallback signal x s
  | .ccpDb i => ccpDbCallback signal i s
  | .ccpPulse i => ccpPulseCallback signal i s
  | .oscSettle => oscSettleCallback s
  | .oscOst => oscOstCallback signal s
  | .ncoOvf => ncoOvfCallback signal s
  | .ncoPulse => ncoPulseCallback signal s
  | .adcSeq => adcSeqCallback signal s
  | .ext _ => emit (.fire t s.cycle) s

/-- One turn of the firing loop on the entry `e` with `rest` left in the queue: the entry and the handle are gone before
the callback runs (R136, R139, R481). -/
def fireEvent (e : Event) (rest : List Event) (s : State) : State :=
  let s1 := callback e.trig { s with queue := rest, firing := some (e.trig, e.cycle) }
  { s1 with firing := none }

/-- The entry that fires next with the entries left behind, `none` when no entry is due (R136). The queue stands in
`(cycle, ins)` order, so the first entry is the least. -/
def nextDue (s : State) : Option (Event × List Event) :=
  match s.queue with
  | [] => none
  | e :: rest => if e.cycle ≤ s.cycle then some (e, rest) else none

/-- The firing loop of `Advance()` (R136) within `n` events: `none` if one is still due after them. -/
def advanceLoop : Nat → State → Option State
  | 0, s => if (nextDue s).isNone then some s else none
  | n + 1, s =>
    match nextDue s with
    | none => some s
    | some (e, rest) => advanceLoop n (fireEvent e rest s)

/-- The firing loop of `Advance()` (R136) with no bound: `none` is "a run that never ends (a hang)" (R142). -/
def advanceRun (s : State) : Option State :=
  match nextDue s with
  | none => some s
  | some (e, rest) => advanceRun (fireEvent e rest s)
partial_fixpoint

/-- How many events `advance` fires by structural recursion, which the kernel evaluates, before it takes `advanceRun`. -/
def advanceFuel : Nat := 2 ^ 64

/-- `Advance()` (R136): the state in which the firing loop ends, after however many events, or the hang of R142
(assumption log 3). -/
def advance (s : State) : Result :=
  match advanceLoop advanceFuel s with
  | some t => .next t
  | none =>
    match advanceRun s with
    | some t => .next t
    | none => .fault .advanceHang

/-- `Step()` (R137). -/
def stepCycle (s : State) : Result :=
  if s.now = BitVec.allOnes 64 then .next (raiseFault .cycleWrap s)
  else advance { s with now := s.now + 1 }

end Sys2Proof.Machine
end

