-- ==== Sys2Proof/Machine/ExecSched.lean ====
section
/-!
DEFINITION. Machine/ExecSched.lean: NOW, SCHED, CANCEL, RESCHED, ADVANCE and STEP (40_scheduler.md R130 to R134, R137).
-/

namespace Sys2Proof.Machine

open Sys2Proof

/-- NOW (R130). -/
def execNow (s : State) : Result := .next (emit (.reply s.now.toNat) s)

/-- SCHED (R131). "The host command accepts only EXT triggers". -/
def execSched (t : TrigId) (c : Long) (s : State) : Result :=
  if t.isExt then .next (schedule t c.toNat s) else .next (raiseFault .illegalCmd s)

/-- CANCEL (R132). -/
def execCancel (t : TrigId) (s : State) : Result :=
  if t.isExt then .next (cancel t s) else .next (raiseFault .illegalCmd s)

/-- RESCHED (R133). -/
def execResched (t : TrigId) (c : Long) (s : State) : Result :=
  if t.isExt then .next (reschedule t c.toNat s) else .next (raiseFault .illegalCmd s)

/-- ADVANCE (R134). -/
def execAdvance (s : State) : Result := advance s

/-- STEP (R137). -/
def execStep (s : State) : Result := stepCycle s

end Sys2Proof.Machine
end

