-- ==== Sys2Proof/Machine/Dispatch.lean ====
section
/-!
DEFINITION. Machine/Dispatch.lean: one arm per command (30_encoding.md R104, R111).
-/

namespace Sys2Proof.Machine

open Sys2Proof

def exec (i : Instr) (s : State) : Host.Outcome State Fault Refusal :=
  match i with
  | .now => Sys2Proof.Machine.execNow s
  | .sched a b => Sys2Proof.Machine.execSched a b s
  | .cancel a => Sys2Proof.Machine.execCancel a s
  | .resched a b => Sys2Proof.Machine.execResched a b s
  | .advance => Sys2Proof.Machine.execAdvance s
  | .step => Sys2Proof.Machine.execStep s
  | .setsrc a b => Sys2Proof.Machine.execSetsrc a b s
  | .setctl a b => Sys2Proof.Machine.execSetctl a b s
  | .addsink a b => Sys2Proof.Machine.execAddsink a b s
  | .rmsink a b => Sys2Proof.Machine.execRmsink a b s
  | .updpin a => Sys2Proof.Machine.execUpdpin a s
  | .drive a b => Sys2Proof.Machine.execDrive a b s
  | .pinrd a => Sys2Proof.Machine.execPinrd a s
  | .attach a b => Sys2Proof.Machine.execAttach a b s
  | .detach a b => Sys2Proof.Machine.execDetach a b s
  | .publish a b c => Sys2Proof.Machine.execPublish a b c s
  | .put a b => Sys2Proof.Machine.execPut a b s
  | .get a => Sys2Proof.Machine.execGet a s
  | .getv a => Sys2Proof.Machine.execGetv a s
  | .setv a b => Sys2Proof.Machine.execSetv a b s
  | .getfreq => Sys2Proof.Machine.execGetfreq s
  | .sleep => Sys2Proof.Machine.execSleep s
  | .wake => Sys2Proof.Machine.execWake s
  | .reset => Sys2Proof.Machine.execReset s
  | .putCycle0 v => Sys2Proof.Machine.execPutCycle0 v s
  | .putCycle1 v => Sys2Proof.Machine.execPutCycle1 v s
  | .putCycle2 v => Sys2Proof.Machine.execPutCycle2 v s
  | .putCycle3 v => Sys2Proof.Machine.execPutCycle3 v s
  | .putCycle4 v => Sys2Proof.Machine.execPutCycle4 v s
  | .putCycle5 v => Sys2Proof.Machine.execPutCycle5 v s
  | .putCycle6 v => Sys2Proof.Machine.execPutCycle6 v s
  | .putCycle7 v => Sys2Proof.Machine.execPutCycle7 v s
  | .putFault v => Sys2Proof.Machine.execPutFault v s
  | .putTmr0 v => Sys2Proof.Machine.execPutTmr0 v s
  | .putT0con v => Sys2Proof.Machine.execPutT0con v s
  | .putT0stat v => Sys2Proof.Machine.execPutT0stat v s
  | .putTmr1l v => Sys2Proof.Machine.execPutTmr1l v s
  | .putTmr1h v => Sys2Proof.Machine.execPutTmr1h v s
  | .putT1con v => Sys2Proof.Machine.execPutT1con v s
  | .putT1gcon v => Sys2Proof.Machine.execPutT1gcon v s
  | .putT1stat v => Sys2Proof.Machine.execPutT1stat v s
  | .putTmr2 v => Sys2Proof.Machine.execPutTmr2 v s
  | .putPr2 v => Sys2Proof.Machine.execPutPr2 v s
  | .putT2con v => Sys2Proof.Machine.execPutT2con v s
  | .putT2hlt v => Sys2Proof.Machine.execPutT2hlt v s
  | .putT2clkcon v => Sys2Proof.Machine.execPutT2clkcon v s
  | .putT2rst v => Sys2Proof.Machine.execPutT2rst v s
  | .putT2stat v => Sys2Proof.Machine.execPutT2stat v s
  | .putTmr4 v => Sys2Proof.Machine.execPutTmr4 v s
  | .putPr4 v => Sys2Proof.Machine.execPutPr4 v s
  | .putT4con v => Sys2Proof.Machine.execPutT4con v s
  | .putT4hlt v => Sys2Proof.Machine.execPutT4hlt v s
  | .putT4clkcon v => Sys2Proof.Machine.execPutT4clkcon v s
  | .putT4rst v => Sys2Proof.Machine.execPutT4rst v s
  | .putT4stat v => Sys2Proof.Machine.execPutT4stat v s
  | .putTmr6 v => Sys2Proof.Machine.execPutTmr6 v s
  | .putPr6 v => Sys2Proof.Machine.execPutPr6 v s
  | .putT6con v => Sys2Proof.Machine.execPutT6con v s
  | .putT6hlt v => Sys2Proof.Machine.execPutT6hlt v s
  | .putT6clkcon v => Sys2Proof.Machine.execPutT6clkcon v s
  | .putT6rst v => Sys2Proof.Machine.execPutT6rst v s
  | .putT6stat v => Sys2Proof.Machine.execPutT6stat v s
  | .putCcpr1l v => Sys2Proof.Machine.execPutCcpr1l v s
  | .putCcpr1h v => Sys2Proof.Machine.execPutCcpr1h v s
  | .putCcp1con v => Sys2Proof.Machine.execPutCcp1con v s
  | .putCcp1tsel v => Sys2Proof.Machine.execPutCcp1tsel v s
  | .putPwm1con v => Sys2Proof.Machine.execPutPwm1con v s
  | .putCcp1as v => Sys2Proof.Machine.execPutCcp1as v s
  | .putCcp1stat v => Sys2Proof.Machine.execPutCcp1stat v s
  | .putCcp1pol v => Sys2Proof.Machine.execPutCcp1pol v s
  | .putCcpr2l v => Sys2Proof.Machine.execPutCcpr2l v s
  | .putCcpr2h v => Sys2Proof.Machine.execPutCcpr2h v s
  | .putCcp2con v => Sys2Proof.Machine.execPutCcp2con v s
  | .putCcp2tsel v => Sys2Proof.Machine.execPutCcp2tsel v s
  | .putPwm2con v => Sys2Proof.Machine.execPutPwm2con v s
  | .putCcp2as v => Sys2Proof.Machine.execPutCcp2as v s
  | .putCcp2stat v => Sys2Proof.Machine.execPutCcp2stat v s
  | .putCcp2pol v => Sys2Proof.Machine.execPutCcp2pol v s
  | .putOsccon v => Sys2Proof.Machine.execPutOsccon v s
  | .putOsctune v => Sys2Proof.Machine.execPutOsctune v s
  | .putOscstat v => Sys2Proof.Machine.execPutOscstat v s
  | .putClc1con v => Sys2Proof.Machine.execPutClc1con v s
  | .putClc1pol v => Sys2Proof.Machine.execPutClc1pol v s
  | .putClc1sel0 v => Sys2Proof.Machine.execPutClc1sel0 v s
  | .putClc1sel1 v => Sys2Proof.Machine.execPutClc1sel1 v s
  | .putClc1sel2 v => Sys2Proof.Machine.execPutClc1sel2 v s
  | .putClc1sel3 v => Sys2Proof.Machine.execPutClc1sel3 v s
  | .putClc1gls0 v => Sys2Proof.Machine.execPutClc1gls0 v s
  | .putClc1gls1 v => Sys2Proof.Machine.execPutClc1gls1 v s
  | .putClc1gls2 v => Sys2Proof.Machine.execPutClc1gls2 v s
  | .putClc1gls3 v => Sys2Proof.Machine.execPutClc1gls3 v s
  | .putClc1stat v => Sys2Proof.Machine.execPutClc1stat v s
  | .putClc2con v => Sys2Proof.Machine.execPutClc2con v s
  | .putClc2pol v => Sys2Proof.Machine.execPutClc2pol v s
  | .putClc2sel0 v => Sys2Proof.Machine.execPutClc2sel0 v s
  | .putClc2sel1 v => Sys2Proof.Machine.execPutClc2sel1 v s
  | .putClc2sel2 v => Sys2Proof.Machine.execPutClc2sel2 v s
  | .putClc2sel3 v => Sys2Proof.Machine.execPutClc2sel3 v s
  | .putClc2gls0 v => Sys2Proof.Machine.execPutClc2gls0 v s
  | .putClc2gls1 v => Sys2Proof.Machine.execPutClc2gls1 v s
  | .putClc2gls2 v => Sys2Proof.Machine.execPutClc2gls2 v s
  | .putClc2gls3 v => Sys2Proof.Machine.execPutClc2gls3 v s
  | .putClc2stat v => Sys2Proof.Machine.execPutClc2stat v s
  | .putClc3con v => Sys2Proof.Machine.execPutClc3con v s
  | .putClc3pol v => Sys2Proof.Machine.execPutClc3pol v s
  | .putClc3sel0 v => Sys2Proof.Machine.execPutClc3sel0 v s
  | .putClc3sel1 v => Sys2Proof.Machine.execPutClc3sel1 v s
  | .putClc3sel2 v => Sys2Proof.Machine.execPutClc3sel2 v s
  | .putClc3sel3 v => Sys2Proof.Machine.execPutClc3sel3 v s
  | .putClc3gls0 v => Sys2Proof.Machine.execPutClc3gls0 v s
  | .putClc3gls1 v => Sys2Proof.Machine.execPutClc3gls1 v s
  | .putClc3gls2 v => Sys2Proof.Machine.execPutClc3gls2 v s
  | .putClc3gls3 v => Sys2Proof.Machine.execPutClc3gls3 v s
  | .putClc3stat v => Sys2Proof.Machine.execPutClc3stat v s
  | .putClc4con v => Sys2Proof.Machine.execPutClc4con v s
  | .putClc4pol v => Sys2Proof.Machine.execPutClc4pol v s
  | .putClc4sel0 v => Sys2Proof.Machine.execPutClc4sel0 v s
  | .putClc4sel1 v => Sys2Proof.Machine.execPutClc4sel1 v s
  | .putClc4sel2 v => Sys2Proof.Machine.execPutClc4sel2 v s
  | .putClc4sel3 v => Sys2Proof.Machine.execPutClc4sel3 v s
  | .putClc4gls0 v => Sys2Proof.Machine.execPutClc4gls0 v s
  | .putClc4gls1 v => Sys2Proof.Machine.execPutClc4gls1 v s
  | .putClc4gls2 v => Sys2Proof.Machine.execPutClc4gls2 v s
  | .putClc4gls3 v => Sys2Proof.Machine.execPutClc4gls3 v s
  | .putClc4stat v => Sys2Proof.Machine.execPutClc4stat v s
  | .putNcoaccl v => Sys2Proof.Machine.execPutNcoaccl v s
  | .putNcoacch v => Sys2Proof.Machine.execPutNcoacch v s
  | .putNcoaccu v => Sys2Proof.Machine.execPutNcoaccu v s
  | .putNcoincl v => Sys2Proof.Machine.execPutNcoincl v s
  | .putNcoinch v => Sys2Proof.Machine.execPutNcoinch v s
  | .putNcocon v => Sys2Proof.Machine.execPutNcocon v s
  | .putNcoclk v => Sys2Proof.Machine.execPutNcoclk v s
  | .putNcostat v => Sys2Proof.Machine.execPutNcostat v s
  | .putAdresl v => Sys2Proof.Machine.execPutAdresl v s
  | .putAdresh v => Sys2Proof.Machine.execPutAdresh v s
  | .putAdcon0 v => Sys2Proof.Machine.execPutAdcon0 v s
  | .putAdcon1 v => Sys2Proof.Machine.execPutAdcon1 v s
  | .putAdacq v => Sys2Proof.Machine.execPutAdacq v s
  | .putAdstat v => Sys2Proof.Machine.execPutAdstat v s

end Sys2Proof.Machine
end

