-- ==== Sys2Proof/Machine/Fetch.lean ====
section
/-!
DEFINITION. Machine/Fetch.lean: taking a command off the host's stream (30_encoding.md R100, R101). The block fetches
nothing (20_memory.md R80, R96); its "fetch" is this one.
-/

namespace Sys2Proof.Machine

open Sys2Proof

/-- The state in which a command taken off the stream runs: its words are consumed, `rest` follows. -/
def State.consume (s : State) (rest : List Word) : State := { s with cmds := rest }

/-- An illegal command: it "changes no state other than `faults` and raises `Fault(ILLEGAL_CMD)`", and its words are
consumed (R105; 95_test_vectors.md S4). -/
def rejectCommand (rest : List Word) (s : State) : State := raiseFault .illegalCmd (s.consume rest)

/-- The host sends words: they queue up behind those not yet taken (R100). -/
def State.send (s : State) (ws : List Word) : State := { s with cmds := s.cmds ++ ws }

end Sys2Proof.Machine
end

