-- ==== Sys2Proof/Machine/Step.lean ====
section
/-!
DEFINITION. Machine/Step.lean: one step of the block: the next command of the host's stream, run to completion
(20_memory.md R91, R95).
-/

namespace Sys2Proof.Machine

open Sys2Proof

/-- One step. With no complete command in the stream the block idles: it "produces no commands of its own" (R100;
assumption log 4). -/
def step (s : State) : Host.Outcome State Fault Refusal :=
  match decode s.cmds with
  | .incomplete => .next s
  | .illegal _ rest => .next (rejectCommand rest s)
  | .command i rest => exec i (s.consume rest)

/-- `s` with the instruction whose bits are `w` as the next command of the stream. -/
def State.withFetchWord (s : State) (nbits w : Nat) : State := { s with cmds := tableCmd nbits w ++ s.cmds }

end Sys2Proof.Machine
end

