-- ==== Sys2Proof/Safety.lean ====
section
/-!
DEFINITION. Safety.lean: what holds of a block between two commands: the queue's structure (10_state.md R22, R23), the
idle bookkeeping (R26), and the part of the state that only configuration commands change. A safe run is one whose every
step answers a next state; the block has no other fault than the hang of Machine/State.lean.
-/

namespace Sys2Proof.Machine

open Sys2Proof

/-- The deferred-event queue as R21 to R23 have it: strictly in `(cycle, ins)` order, at most one entry a trigger, every
insertion number already used. -/
def State.queueOk (s : State) : Prop :=
  s.queue.Pairwise (fun a b => a.before b = true) ∧ s.queue.Pairwise (fun a b => a.trig ≠ b.trig) ∧
    ∀ e ∈ s.queue, e.ins < s.seq

/-- "Both are 0/none at reset and between commands" (R26), and no `PinDrive` is running. -/
def State.idle (s : State) : Prop := s.firing = none ∧ s.busDepth = 0 ∧ s.pinDepth = 0

/-- The invariant of every block between commands. -/
def State.Inv (s : State) : Prop := s.queueOk ∧ s.idle

/-! ### The configuration: the state with everything a pin change or a bus delivery can change blanked out -/

/-- A pin module without its observable level. -/
def Pin.config (m : Pin) : Pin := { m with lvl := .Z }

def Prescaler.config (p : Prescaler) : Prescaler := { p with cnt := 0 }

/-- Timer0 without what its clock edges change (R216). -/
def Timer0.config (t : Timer0) : Timer0 := { t with flag := false, held := 0, pre := t.pre.config }

/-- Timer1 without what its clock and gate change (R226, R227): T1CON, T1GCON, the compare list and the divisor stay. -/
def Timer1.config (t : Timer1) : Timer1 :=
  { t with
    flag := false, run := false, anchor := 0, held := 0, pre := t.pre.config, gateTff := false, gateLvl := .L
    breakValue := none, breakKind := {} }

/-- A Timer2-family instance without what its reset signal changes (R238): its registers, the flag, the postscaler and
the list of CCP units stay. -/
def Timer2.config (t : Timer2) : Timer2 :=
  { t with
    run := false, anchor := 0, held := 0, ers := .L, armed := false, breakValue := none, breakMask := 0
    ratio := ⟨0, 0⟩ }

/-- A CCP unit without what captures, compare matches and the shutdown input change (R285, R290, R311). Of CCPxAS
everything but ASE stays. -/
def Ccp.config (u : Ccp) : Ccp :=
  { u with
    rl := 0, rh := 0, as := u.as &&& 0x7F, flag := false, out := Vector.replicate 4 .L, capPre := u.capPre.config
    dutyArmed := false, shutdown := false, dbTarget := none, mod := .L, pin := Vector.replicate 4 .L, asLvl := .L }

/-- A logic cell's registers (R372). -/
def Clc.config (c : Clc) : Clc :=
  { c with flag := false, inp := Vector.replicate 4 .L, q := false, g1Prev := false, out := false }

/-- The NCO without what its clock edges change (R405). -/
def Nco.config (n : Nco) : Nco := { n with acc := 0, flag := false, out := false, pulseLeft := 0, lvl := false }

/-- The ADC without what a start changes (R421): GO, the samples and the sequencer's state. -/
def Adc.config (a : Adc) : Adc := { a with con0 := a.con0 &&& 0xFD, state := .idle, vin := 0, vhi := 0, vlo := 0 }

/-- The configuration of the block: what no `PinDrive` and no `Publish` changes, however far it propagates. -/
def State.config (s : State) : State :=
  { s with
    seq := 0, queue := [], faults := {}, out := [], pins := s.pins.map Pin.config
    t0 := s.t0.config, t1 := s.t1.config, t2 := s.t2.config, t4 := s.t4.config, t6 := s.t6.config
    ccp1 := s.ccp1.config, ccp2 := s.ccp2.config
    clc1 := s.clc1.config, clc2 := s.clc2.config, clc3 := s.clc3.config, clc4 := s.clc4.config
    nco := s.nco.config, adc := s.adc.config }

/-- The triggers whose handle no `PinDrive` and no `Publish` touches: their owners move them in register writes, in
oscillator changes and in their own callbacks only. -/
def steadyTrigger : TrigId → Bool
  | .t0Ovf | .oscSettle | .oscOst | .ncoOvf | .ext _ => true
  | .t1Brk | .tBrk _ | .ccpDb _ | .ccpPulse _ | .ncoPulse | .adcSeq => false

/-- What a `PinDrive` or a `Publish` can have done, whatever it reached: the configuration stands, the log has grown, no
fault kind but BUS_DEPTH is new and none is gone, the queue keeps its structure, the steady triggers keep their entries. -/
structure Signalled (s t : State) : Prop where
  config : t.config = s.config
  log : ∃ l, t.out = s.out ++ l
  sticky : ∀ k, s.faults.has k = true → t.faults.has k = true
  onlyDepth : ∀ k, k ≠ .busDepth → t.faults.has k = s.faults.has k
  queueOk : s.queueOk → t.queueOk
  steady : ∀ tr, steadyTrigger tr = true → t.pending tr = s.pending tr

/-! ### The wiring: what only the host's own commands change -/

/-- A pin module's construction-time association (R471) and its outside level: what peripherals leave alone. -/
def Pin.wiring (m : Pin) : Pin := { m with sinks := m.sinks.filter SinkId.hostWired, lvl := .Z }

/-- The block with every peripheral, the queue, the log and the faults blanked out: left are the configuration record,
the commands not yet taken, the clock, the sleep notification, the nesting bookkeeping, each pin's source, control,
outside level and host-wired sinks, the host receivers of each channel, and the host's voltages. -/
def State.wiring (s : State) : State :=
  { State.blank s.cfg with
    cmds := s.cmds, now := s.now, sleeping := s.sleeping, firing := s.firing, busDepth := s.busDepth
    pinDepth := s.pinDepth, pins := s.pins.map Pin.wiring, subs := s.subs.map (fun l => l.filter RecvId.isHost)
    vin := s.vin, vrefhi := s.vrefhi, vreflo := s.vreflo }

/-- What a register write or a callback can have done, whatever it reached: the wiring stands, the log has grown, no
fault is gone, the queue keeps its structure. -/
structure Ran (s t : State) : Prop where
  wiring : t.wiring = s.wiring
  log : ∃ l, t.out = s.out ++ l
  sticky : ∀ k, s.faults.has k = true → t.faults.has k = true
  queueOk : s.queueOk → t.queueOk

/-! ### The control registers -/

/-- The cell holds a byte that a PUT stores: every cell but the counts, the status registers and the read-only cells. -/
def hasControlByte : Reg → Bool
  | .cycle _ | .fault | .tmr0 | .t0stat | .tmr1l | .tmr1h | .t1stat | .tmr _ | .tstat _ | .ccpstat _ | .oscstat
  | .clcstat _ | .ncoaccl | .ncoacch | .ncoaccu | .ncostat | .adstat => false
  | _ => true

/-- The byte a control register holds: its stored byte, and for CLCnCON and NCOCON the byte beside the OUT bit. -/
def controlByte (s : State) : Reg → Byte
  | .clccon n => (s.clc n).con
  | .ncocon => s.nco.con
  | r => storedByte s r

/-- The bits of a control register that no pin change and no bus delivery writes: all but a capture's pair, ASE and GO
(R285, R311, R421). -/
def steadyBits : Reg → Byte
  | .ccprl _ | .ccprh _ => 0x00
  | .ccpas _ => 0x7F
  | .adcon0 => 0xFD
  | _ => 0xFF

/-! ### Invariants of the units -/

/-- A unit stands in Timer1's compare list exactly while its mode is a compare mode, and in a PWM timer's list exactly
while its mode is PWM and it selects that timer, once each (R35, R39, R280). -/
def State.Listed (s : State) : Prop :=
  (s.t1.cmp.map Prod.fst).Nodup ∧
  (∀ i, i ∈ s.t1.cmp.map Prod.fst ↔ isCompareMode (ccpMode (s.ccp i)) = true) ∧
  (∀ x, (s.tm x).pwm.Nodup) ∧
  ∀ x i, i ∈ (s.tm x).pwm ↔ isPwmMode (ccpMode (s.ccp i)) = true ∧ s.pwmTimer i = x

/-- A timer counts cycles or input clocks exactly while its run condition holds (R210, R218, R231); in particular none
does in a sleeping block (R455). -/
def State.Running (s : State) : Prop :=
  s.t0.run = t0RunCond s ∧ s.t1.run = t1RunCond s ∧ ∀ x, (s.tm x).run = t2RunCond s x

/-! ### States in which a unit's output reaches hosts only -/

/-- Every receiver attached to the channel is the host's. -/
def State.hostsOnly (s : State) (k : ChanKind) : Prop := ∀ r ∈ s.subsOf k, r.isHost = true

/-- The records of one delivery to the receivers of a channel on which only hosts listen (R182, R184). -/
def State.heard (s : State) (k : ChanKind) (sub v : Nat) (c : Nat) : List OutRec :=
  (s.subsOf k).map (fun r => .recv r k sub v c)

/-- No pin shows or is steered by an output of the unit, and only hosts hear PWM_EDGE. -/
def State.ccpAlone (s : State) (i : CcpId) : Prop :=
  (∀ (p : PinIx) (k : Fin 4), pinOfOutput i k s.pins[p] = false) ∧ s.hostsOnly .pwmEdge ∧
    s.busDepth < s.cfg.busDepthMax

/-- No pin shows or is steered by the cell's output, and only hosts hear CLC_OUT; the NCO is not clocked by it. -/
def State.clcAlone (s : State) (n : ClcId) : Prop :=
  (∀ p : PinIx, s.pins[p].src ≠ some (.clc n) ∧ s.pins[p].ctl ≠ some (.clc n)) ∧ s.hostsOnly .clcOut ∧
    s.busDepth < s.cfg.busDepthMax ∧ (n = .clc1 → ncoEn s.nco = true → ncoCks s.nco ≠ 2)

/-- No pin shows or is steered by the NCO's output, and only hosts hear NCO_OUT. -/
def State.ncoAlone (s : State) : Prop :=
  (∀ p : PinIx, s.pins[p].src ≠ some .nco ∧ s.pins[p].ctl ≠ some .nco) ∧ s.hostsOnly .ncoOut ∧
    s.busDepth < s.cfg.busDepthMax

/-- Only hosts hear FREQ, and no running timer takes its clock from the internal RC. -/
def State.oscAlone (s : State) : Prop :=
  s.hostsOnly .freq ∧ s.busDepth < s.cfg.busDepthMax ∧
    ∀ x, (s.tm x).run = true → t2Clk s.cfg (s.tm x).clkcon ≠ .intRc

/-- The next cycle's events are the one at the head of the queue, for trigger `t`: what the next STEP fires. -/
def State.dueNext (s : State) (t : TrigId) (rest : List Event) : Prop :=
  s.Inv ∧ s.now ≠ BitVec.allOnes 64 ∧ (∃ k, s.queue = ⟨s.now.toNat + 1, k, t⟩ :: rest) ∧
    ∀ e ∈ rest, s.now.toNat + 1 < e.cycle

/-! ### A counter apart from its count: what SLEEP and WAKE leave alone -/

/-- Timer0 without its run bit and its count: T0CON, TMR0IF and the stored prescaler. -/
def Timer0.standing (t : Timer0) : Timer0 := { t with run := false, anchor := 0, held := 0 }

/-- Timer1 without its run bit, count and breakpoint: the registers, the flag, the gate, the prescaler, the compare
list. -/
def Timer1.standing (t : Timer1) : Timer1 :=
  { t with run := false, anchor := 0, held := 0, breakValue := none, breakKind := {} }

/-- A Timer2-family instance without its run bit, count and breakpoint: the registers, the flag, the postscaler, the
reset signal, `tx_armed`, the list of CCP units. -/
def Timer2.standing (t : Timer2) : Timer2 :=
  { t with run := false, anchor := 0, held := 0, breakValue := none, breakMask := 0, ratio := ⟨1, 1⟩ }

/-- The NCO without its accumulator: the registers, the flag, the output and its pulse. -/
def Nco.standing (n : Nco) : Nco := { n with acc := 0, anchor := 0 }

/-- Every counter of `t` stands as in `s` but for its count. -/
def State.countersStand (s t : State) : Prop :=
  t.t0.standing = s.t0.standing ∧ t.t1.standing = s.t1.standing ∧ (∀ x, (t.tm x).standing = (s.tm x).standing) ∧
    t.nco.standing = s.nco.standing

/-- The trigger's entry apart, the two queues hold the same entries. -/
def sameEventsBut (ts : List TrigId) (q q' : List Event) : Prop := ∀ e, e.trig ∉ ts → (e ∈ q' ↔ e ∈ q)

/-! ### Where a counter that starts again has its next event -/

/-- The triggers of the internally clocked counters that run (R455, R456). -/
def State.runningEvents (s : State) : List TrigId :=
  (if s.t0.run then [.t0Ovf] else []) ++ (if s.t1.run then [.t1Brk] else []) ++
    ([T2Id.t2, .t4, .t6].filter (fun x => (s.tm x).run)).map .tBrk ++ (if ncoRun s then [.ncoOvf] else [])

/-- Where the compare value `w` next matches, in counts from 0, with Timer1's count at `v` (R219). -/
def t1Position (v : Nat) (w : Half) : Nat := if v < w.toNat then w.toNat else w.toNat + 65536

/-- The position of Timer1's next breakpoint: the rollover at 65536, or the earliest compare value (R219). -/
def t1NextPosition (v : Nat) (cmp : List (CcpId × Half)) : Nat := cmp.foldl (fun m e => min m (t1Position v e.2)) 65536

/-- The candidate positions of a Timer2-family breakpoint with the count at `v` (R239): the period match or, past PRx,
the wrap at 256; and the armed duties. -/
def State.t2Positions (s : State) (x : T2Id) (v : Nat) : List (Rat × Byte) :=
  (if v ≤ (s.tm x).pr.toNat then (t2PeriodAt s x, periodBit) else (((256 * t2Div (s.tm x).con : Nat) : Rat), wrapBit)) ::
    t2Duties s x

end Sys2Proof.Machine
end

