-- ==== Sys2Proof/Certificates/Slice0/Obligations.lean ====
section
/-!
DEFINITION. Certificates/Slice0/Obligations.lean: the statements for the provers. Each cites the rules of spec/ that it
states; where it rests on a choice of the model its docstring names the assumption-log entry.
-/

open Sys2Proof Sys2Proof.Machine

/-! ### Encoding -/

/-- Decode and encode agree: every well-formed command is read back from its own words, whatever words follow it
(30_encoding.md R101 to R104). -/
def Obligations.CommandsDecodeBack : Prop :=
  ∀ (i : Instr) (rest : List Word), i.wf = true → decode (encode i ++ rest) = .command i rest

/-- The other direction: a command that the decoder accepts stood in the stream as its own encoding, so no two words
mean one command and no reserved word is accepted (30_encoding.md R105). -/
def Obligations.AcceptedWordsAreEncodings : Prop :=
  ∀ (ws rest : List Word) (i : Instr), decode ws = .command i rest → i.wf = true ∧ ws = encode i ++ rest

/-- The illegal words of R105: an unknown opcode, a non-zero unused field, a level 3, a pin, ADC channel or channel kind
out of range, an unknown trigger, source, control, sink or receiver id, and the ids that only a peripheral may use. That
an unknown opcode takes one word is the model's reading, assumption log 5. -/
def Obligations.IllegalWords : Prop :=
  ∀ (w w1 w2 : Word) (rest : List Word),
    (opField w ∉ [0x01, 0x02, 0x03, 0x04, 0x05, 0x06, 0x10, 0x11, 0x12, 0x13, 0x14, 0x15, 0x16, 0x18, 0x19, 0x1A,
        0x20, 0x21, 0x22, 0x28, 0x29, 0x30, 0x31, 0x3F] → ∃ e, decode (w :: rest) = .illegal e rest) ∧
    (opField w ∈ [0x01, 0x05, 0x06, 0x21, 0x22, 0x29, 0x30, 0x31, 0x3F] → aField w ≠ 0 →
      ∃ e, decode (w :: rest) = .illegal e rest) ∧
    (opField w ∈ [0x01, 0x03, 0x05, 0x06, 0x14, 0x16, 0x29, 0x30, 0x31, 0x3F] → bField w ≠ 0 →
      ∃ e, decode (w :: rest) = .illegal e rest) ∧
    (opField w ∈ [0x02, 0x04, 0x28] → bField w ≠ 0 → ∃ e, decode (w :: w1 :: w2 :: rest) = .illegal e rest) ∧
    (opField w ∈ [0x10, 0x11, 0x12, 0x13, 0x14, 0x15, 0x16] → 32 ≤ (aField w).toNat →
      ∃ e, decode (w :: rest) = .illegal e rest) ∧
    (opField w = 0x15 → 3 ≤ (bField w).toNat → ∃ e, decode (w :: rest) = .illegal e rest) ∧
    (opField w ∈ [0x02, 0x04] → ((aField w).toNat < 0x20 ∨ 0x40 ≤ (aField w).toNat) →
      ∃ e, decode (w :: w1 :: w2 :: rest) = .illegal e rest) ∧
    (opField w = 0x03 → ((aField w).toNat < 0x20 ∨ 0x40 ≤ (aField w).toNat) →
      ∃ e, decode (w :: rest) = .illegal e rest) ∧
    (opField w ∈ [0x18, 0x19] → ((bField w).toNat < 0x0100 ∨ 0x0120 ≤ (bField w).toNat) →
      ∃ e, decode (w :: rest) = .illegal e rest) ∧
    (opField w = 0x10 → (bField w).toNat ∉ [0x10, 0x11, 0x12, 0x13, 0x14, 0x20, 0x21, 0x22, 0x23, 0x28, 0xFFFF] →
      ∃ e, decode (w :: rest) = .illegal e rest) ∧
    (opField w = 0x11 →
      (bField w).toNat ∉ [0x00, 0x01, 0x10, 0x11, 0x12, 0x13, 0x14, 0x20, 0x21, 0x22, 0x23, 0x28, 0xFFFF] →
      ∃ e, decode (w :: rest) = .illegal e rest) ∧
    (opField w ∈ [0x12, 0x13] → (bField w).toNat ∉ [0x00, 0x01, 0x02, 0x08, 0x09, 0x30] →
      ∃ e, decode (w :: rest) = .illegal e rest) ∧
    (opField w ∈ [0x18, 0x19] → ((aField w).toNat = 0 ∨ 0x0B < (aField w).toNat) →
      ∃ e, decode (w :: rest) = .illegal e rest) ∧
    (opField w = 0x1A → ((aField w).toNat = 0 ∨ 0x0B < (aField w).toNat) →
      ∃ e, decode (w :: w1 :: w2 :: rest) = .illegal e rest) ∧
    (opField w = 0x28 → 32 ≤ (aField w).toNat → (aField w).toNat < 0xFE →
      ∃ e, decode (w :: w1 :: w2 :: rest) = .illegal e rest)

/-- A step takes the next command off the stream (R100, R101, R105). A command runs with its words taken off; an illegal
one is consumed and changes nothing but the fault record. With no complete command there the block stands still: the
model's idle step, assumption log 4. -/
def Obligations.StepRunsTheNextCommand : Prop :=
  ∀ (s : State),
    (∀ i rest, decode s.cmds = .command i rest → step s = exec i { s with cmds := rest }) ∧
    (∀ e rest, decode s.cmds = .illegal e rest →
      step s = .next { s with cmds := rest, faults := s.faults.add .illegalCmd }) ∧
    (decode s.cmds = .incomplete → step s = .next s)

/-- Words written out from the tables of R104, R109 and R111 to R115 read as the commands they stand for. -/
def Obligations.WordsOfTheTables : Prop :=
  decode [0x01000000] = .command .now [] ∧
  decode [0x02200000, 0x0000000A, 0x00000001] = .command (.sched (.ext 0) 0x10000000A) [] ∧
  decode [0x10041234, 0x06000000] = .illegal .badSource [0x06000000] ∧
  decode [0x1004FFFF, 0x06000000] = .command (.setsrc 4 none) [0x06000000] ∧
  decode [0x11040010] = .command (.setctl 4 (some (.ccp1 0))) [] ∧
  decode [0x15050001] = .command (.drive 5 .H) [] ∧
  decode [0x18010100] = .command (.attach .t0Ovf (.host 0)) [] ∧
  decode [0x20880101] = .command (.putT0con 0x88) [] ∧
  decode [0x20820900] = .command (.putClc1con 0x82) [] ∧
  decode [0x20550F00] = .command (.put 0x55 0x0F00) [] ∧
  decode [0x28FE0000, 0x004C4B40, 0x00000000] = .command (.setv .vrefHi 5000000) []

/-! ### The machine as a whole -/

/-- No command is refused and none stops the block: each answers a next state in every state, but for an ADVANCE or a
STEP whose firing loop never ends (R136, R142). ADVANCE answers exactly the state in which its loop ends, after any
number of events; that a loop without end is the fault `advanceHang` is assumption log 3. -/
def Obligations.EveryCommandRuns : Prop :=
  ∀ (i : Instr) (s : State),
    (i ≠ .advance → i ≠ .step → ∃ t, exec i s = .next t) ∧
    (∀ t, exec .advance s = .next t ↔ ∃ n, advanceLoop n s = some t) ∧
    (exec .advance s = .fault .advanceHang ↔ ∀ n, advanceLoop n s = none) ∧
    ((∃ t, exec .advance s = .next t) ∨ exec .advance s = .fault .advanceHang) ∧
    (exec .step s = if s.now = BitVec.allOnes 64 then .next { s with faults := s.faults.add .cycleWrap }
      else exec .advance { s with now := s.now + 1 })

/-- The structure of the queue and the idle bookkeeping are kept by every step (R22, R23, R26), whatever the command:
the queue stays strictly in `(cycle, ins)` order with at most one entry a trigger. -/
def Obligations.StepKeepsInv : Prop :=
  ∀ (s t : State), s.Inv → step s = .next t → t.Inv

/-- The three invariants hold right after reset. -/
def Obligations.ResetInv : Prop := State.reset.Inv ∧ State.reset.Listed ∧ State.reset.Running

/-- The clock moves only by STEP, by exactly one, and by RESET to 0; at the top of the counter STEP leaves it there with
CYCLE_WRAP. -/
def Obligations.TimeMovesOnlyByStep : Prop :=
  State.reset.now = 0 ∧
  ∀ (i : Instr) (s t : State), s.firing = none → exec i s = .next t →
    (i ≠ .step → i ≠ .reset → t.now = s.now) ∧
    (i = .step → s.now ≠ BitVec.allOnes 64 → t.now.toNat = s.now.toNat + 1) ∧
    (i = .step → s.now = BitVec.allOnes 64 → t.now = s.now ∧ t.faults.cycleWrap = true) ∧
    (i = .reset → t.now = 0)

/-- The configuration record never changes (R7), the log is only appended to (R27), and a fault once recorded stays
until a RESET (R24). -/
def Obligations.LogGrowsFaultsStick : Prop :=
  ∀ (i : Instr) (s t : State), s.firing = none → exec i s = .next t →
    t.cfg = s.cfg ∧ (∃ l, t.out = s.out ++ l) ∧
      (i ≠ .reset → ∀ k, s.faults.has k = true → t.faults.has k = true)

/-- What peripherals leave alone: a PUT, a scheduler command, UPDPIN, PUBLISH or a read changes no pin's source,
control, outside level or host-wired sink, no host attachment, no host voltage, and neither the clock nor the sleep
state (R29, R115, R471, R427). -/
def Obligations.PeripheralsLeaveTheWiring : Prop :=
  ∀ (i : Instr) (s t : State), s.firing = none → exec i s = .next t →
    ((∃ r v, i = putRow v r) ∨ (∃ v a, i = .put v a) ∨ (∃ a, i = .get a) ∨ (∃ a, i = .getv a) ∨ i = .getfreq ∨
      i = .now ∨ (∃ u c, i = .sched u c) ∨ (∃ u, i = .cancel u) ∨ (∃ u c, i = .resched u c) ∨ i = .advance ∨
      (∃ p, i = .updpin p) ∨ (∃ p, i = .pinrd p) ∨ (∃ k b v, i = .publish k b v)) →
    t.wiring = s.wiring

/-- NOW, PINRD, GETFREQ, GET and GETV (R87, R130, R161, R162, R177, R349): each replies its value and changes nothing
else: the cycle counter, the pin's observable level (0 = L, 1 = H, 2 = Z), the effective frequency in whole hertz, the
cell. (PINRD of a pin at or past N_PIN: AbsentPinsAndChannels.) -/
def Obligations.QueriesReplyOnly : Prop :=
  ∀ (s : State),
    let replies : Instr → Nat → Prop := fun i v => exec i s = .next { s with out := s.out ++ [.reply v] }
    replies .now s.now.toNat ∧
    (∀ p : PinIx, p.val < s.cfg.nPin → replies (.pinrd p) (match s.pins[p].lvl with | .L => 0 | .H => 1 | .Z => 2)) ∧
    replies .getfreq s.osc.fEff.floor.toNat ∧
    ∀ (a : Half) (r : Reg), regOfAddr a = some r →
      replies (.get a) (readReg r s).toNat ∧ replies (.getv a) (readReg r s).toNat

/-! ### Scheduler -/

/-- SCHED, CANCEL and RESCHED (R21, R131, R132, R133). SCHED adds the entry `(c, seq, t)` and counts `seq` on; for a
trigger with a pending event it raises SCHED_DOUBLE and changes nothing else. CANCEL removes the trigger's entry, a
no-op without one. RESCHED is the two in one, with a new insertion number. A peripheral's trigger is illegal. -/
def Obligations.SchedulerHandles : Prop :=
  ∀ (t : TrigId) (c : Long) (s : State),
    (t.isExt = true → s.pending t = none → ∃ q,
      exec (.sched t c) s = .next { s with queue := q, seq := s.seq + 1 } ∧
      ∀ e, e ∈ q ↔ e ∈ s.queue ∨ e = ⟨c.toNat, s.seq, t⟩) ∧
    (t.isExt = true → s.pending t ≠ none →
      exec (.sched t c) s = .next { s with faults := s.faults.add .schedDouble }) ∧
    (t.isExt = true → ∃ q, exec (.cancel t) s = .next { s with queue := q } ∧
      (∀ e, e ∈ q ↔ e ∈ s.queue ∧ e.trig ≠ t) ∧ q.Sublist s.queue ∧ (s.pending t = none → q = s.queue)) ∧
    (t.isExt = true → ∃ q, exec (.resched t c) s = .next { s with queue := q, seq := s.seq + 1 } ∧
      ∀ e, e ∈ q ↔ (e ∈ s.queue ∧ e.trig ≠ t) ∨ e = ⟨c.toNat, s.seq, t⟩) ∧
    (t.isExt = false →
      exec (.sched t c) s = .next { s with faults := s.faults.add .illegalCmd } ∧
      exec (.cancel t) s = .next { s with faults := s.faults.add .illegalCmd } ∧
      exec (.resched t c) s = .next { s with faults := s.faults.add .illegalCmd })

/-- ADVANCE where every due event is a host test trigger (R136, R138): each due entry leaves the queue and fires once,
in `(cycle, ins)` order, the rest stays, and nothing else changes. -/
def Obligations.AdvanceFiresInOrder : Prop :=
  ∀ s : State, s.Inv →
    (∀ e ∈ s.queue, e.cycle ≤ s.now.toNat → e.trig.isExt = true) →
    exec .advance s = .next { s with
      queue := s.queue.filter (fun e => decide (s.now.toNat < e.cycle))
      out := s.out ++ (s.queue.filter (fun e => decide (e.cycle ≤ s.now.toNat))).map (fun e =>
        .fire e.trig s.now.toNat) }

/-- ADVANCE and STEP (R134, R136, R137). With nothing due ADVANCE does nothing. STEP at the top of the counter only
records CYCLE_WRAP; else the clock counts on and `Advance` runs, and where nothing is due at the new cycle that is all.
-/
def Obligations.StepCountsAndAdvances : Prop :=
  ∀ s : State,
    ((∀ e ∈ s.queue, s.now.toNat < e.cycle) → exec .advance s = .next s) ∧
    (s.now = BitVec.allOnes 64 → exec .step s = .next { s with faults := s.faults.add .cycleWrap }) ∧
    (s.now ≠ BitVec.allOnes 64 → exec .step s = exec .advance { s with now := s.now + 1 }) ∧
    (s.now ≠ BitVec.allOnes 64 → (∀ e ∈ s.queue, s.now.toNat + 1 < e.cycle) →
      exec .step s = .next { s with now := s.now + 1 })

/-! ### Pins -/

/-- The pin commands on a pin of the block with no listener (R170, R171, R174 to R176): SETSRC, SETCTL and DRIVE change
their field, then `PinDrive` recomputes the level: the source's where the control says OUT and it is not Z, else the
outside level. A level that changes is recorded, one that stands is silent. Nothing else changes. -/
def Obligations.PinCommandsWithoutListeners : Prop :=
  ∀ (p : PinIx) (s : State), p.val < s.cfg.nPin → s.pins[p].sinks = [] → s.pinDepth < s.cfg.busDepthMax →
    let shown : Pin → Level := fun m =>
      match m.src, m.ctl with
      | some a, some k => if ctlOut s k = true ∧ srcLevel s a ≠ .Z then srcLevel s a else m.ext
      | _, _ => m.ext
    let after : Pin → State := fun m => { s with
      pins := s.pins.set p { m with lvl := shown m }
      out := if shown m = s.pins[p].lvl then s.out else s.out ++ [.pin p (shown m) s.now.toNat] }
    (∀ src, exec (.setsrc p src) s = .next (after { s.pins[p] with src := src })) ∧
    (∀ ctl, exec (.setctl p ctl) s = .next (after { s.pins[p] with ctl := ctl })) ∧
    (∀ l, exec (.drive p l) s = .next (after { s.pins[p] with ext := l })) ∧
    exec (.updpin p) s = .next (after s.pins[p])

/-- The pin commands on a pin of the block, whatever listens (R175, R178, R179): they run, the command's field of the
pin is stored, and the propagation changes what `Signalled` allows and nothing else: no pin's source, control, outside
level or listeners, no subscription, no configuration register, no steady trigger, and no fault kind but BUS_DEPTH. -/
def Obligations.PinCommandsPropagate : Prop :=
  ∀ (p : PinIx) (s : State), p.val < s.cfg.nPin →
    (∀ src, ∃ t, exec (.setsrc p src) s = .next t ∧
      Signalled { s with pins := s.pins.set p { s.pins[p] with src := src } } t) ∧
    (∀ ctl, ∃ t, exec (.setctl p ctl) s = .next t ∧
      Signalled { s with pins := s.pins.set p { s.pins[p] with ctl := ctl } } t) ∧
    (∀ l, ∃ t, exec (.drive p l) s = .next t ∧
      Signalled { s with pins := s.pins.set p { s.pins[p] with ext := l } } t) ∧
    (∃ t, exec (.updpin p) s = .next t ∧ Signalled s t)

/-- The host's own wiring (R172, R173, R180, R181): ADDSINK and ATTACH append the sink or receiver once, RMSINK and
DETACH remove it with the others in their order, and no one is notified; a peripheral's sink or receiver is illegal. -/
def Obligations.HostWiringCommands : Prop :=
  ∀ (p : PinIx) (k : SinkId) (c : ChanKind) (r : RecvId) (s : State),
    (k.hostWired = true → p.val < s.cfg.nPin →
      exec (.addsink p k) s = .next { s with pins := s.pins.set p { s.pins[p] with
        sinks := if k ∈ s.pins[p].sinks then s.pins[p].sinks else s.pins[p].sinks ++ [k] } } ∧
      exec (.rmsink p k) s = .next { s with pins := s.pins.set p { s.pins[p] with
        sinks := s.pins[p].sinks.filter (fun j => decide (j ≠ k)) } }) ∧
    (k.hostWired = false →
      exec (.addsink p k) s = .next { s with faults := s.faults.add .illegalCmd } ∧
      exec (.rmsink p k) s = .next { s with faults := s.faults.add .illegalCmd }) ∧
    (r.isHost = true →
      exec (.attach c r) s = .next (s.setSubs c (if r ∈ s.subsOf c then s.subsOf c else s.subsOf c ++ [r])) ∧
      exec (.detach c r) s = .next (s.setSubs c ((s.subsOf c).filter (fun j => decide (j ≠ r))))) ∧
    (r.isHost = false →
      exec (.attach c r) s = .next { s with faults := s.faults.add .illegalCmd } ∧
      exec (.detach c r) s = .next { s with faults := s.faults.add .illegalCmd })

/-- An edge on T0CKI (R216): a pin whose one listener is Timer0 goes up in the edge-counting mode. The prescaler steps;
on its tick the count goes up by one, and on the wrap to 0 the flag is raised and T0_OVF published, here to host
receivers alone. Timer0's other registers and everything outside Timer0, the pin and the log stand. -/
def Obligations.DriveClocksTimer0 : Prop :=
  ∀ (p : PinIx) (s : State), p.val < s.cfg.nPin → s.pins[p].sinks = [.t0cki] → s.pins[p].src = none →
    s.pins[p].lvl ≠ .H →
    bit s.t0.con 7 = true → bit s.t0.con 5 = true → bit s.t0.con 4 = false →
    (∀ r ∈ s.subsOf .t0Ovf, r.isHost = true) → s.pinDepth < s.cfg.busDepthMax → s.busDepth < s.cfg.busDepthMax →
    let s1 : State := { s with
      pins := s.pins.set p { s.pins[p] with ext := .H, lvl := .H }, out := s.out ++ [.pin p .H s.now.toNat] }
    (s.t0.pre.cnt ≠ 0 →
      exec (.drive p .H) s = .next { s1 with t0 := { s.t0 with pre := ⟨s.t0.pre.cnt - 1, s.t0.pre.div⟩ } }) ∧
    (s.t0.pre.cnt = 0 → s.t0.held ≠ 255 →
      exec (.drive p .H) s = .next { s1 with
        t0 := { s.t0 with pre := ⟨s.t0.pre.div - 1, s.t0.pre.div⟩, held := s.t0.held + 1 } }) ∧
    (s.t0.pre.cnt = 0 → s.t0.held = 255 →
      exec (.drive p .H) s = .next { s1 with
        t0 := { s.t0 with pre := ⟨s.t0.pre.div - 1, s.t0.pre.div⟩, held := 0, flag := true }
        out := s1.out ++ [.irq .tmr0 s.now.toNat] ++
          (s.subsOf .t0Ovf).map (fun r => .recv r .t0Ovf 0 1 s.now.toNat) })

/-- A capture (R285): a pin whose one listener is the unit's capture input falls in the every-falling-edge mode, with
the capture prescaler about to tick. The pair takes Timer1's count, low byte in CCPRiL, the flag is raised with one
`Irq`, and nothing else changes. -/
def Obligations.DriveCaptures : Prop :=
  ∀ (i : CcpId) (p : PinIx) (s : State), p.val < s.cfg.nPin → s.pins[p].sinks = [.ccpIn i] →
    s.pins[p].src = none → s.pins[p].lvl = .H →
    field (s.ccp i).con 0 4 = 4 → (s.ccp i).capPre.cnt = 0 → s.pinDepth < s.cfg.busDepthMax →
    let u : Ccp := { s.ccp i with
      capPre := ⟨(s.ccp i).capPre.div - 1, (s.ccp i).capPre.div⟩, rl := readReg .tmr1l s, rh := readReg .tmr1h s
      flag := true }
    let t : State := { s with
      pins := s.pins.set p { s.pins[p] with ext := .L, lvl := .L }
      out := s.out ++ [.pin p .L s.now.toNat, .irq (.ccp i) s.now.toNat] }
    exec (.drive p .L) s = .next (t.setCcp i u)

/-! ### Event bus -/

/-- PUBLISH (R182, R183, R184): at the nesting limit only BUS_DEPTH is recorded; below it host receivers each get one
record, in attach order; and whatever else listens, only what `Signalled` allows changes. -/
def Obligations.PublishFansOut : Prop :=
  ∀ (k : ChanKind) (b : Half) (v : Long) (s : State),
    (s.busDepth = s.cfg.busDepthMax →
      exec (.publish k b v) s = .next { s with faults := s.faults.add .busDepth }) ∧
    (s.busDepth < s.cfg.busDepthMax → (∀ r ∈ s.subsOf k, r.isHost = true) →
      exec (.publish k b v) s = .next { s with
        out := s.out ++ (s.subsOf k).map (fun r => .recv r k b.toNat v.toNat s.now.toNat) }) ∧
    (∃ t, exec (.publish k b v) s = .next t ∧ Signalled s t)

/-! ### Register access -/

/-- An address that names no cell (R82): PUT, GET and GETV change no state but the fault record and reply nothing:
UNMODELLED for the angular timer's unit, BAD_REG for the rest. -/
def Obligations.UnmappedAddresses : Prop :=
  ∀ (a : Half) (v : Byte) (s : State), regOfAddr a = none →
    let t : State := { s with faults := s.faults.add (if a.toNat / 256 = 0x0F then .unmodelled else .badReg) }
    exec (.put v a) s = .next t ∧ exec (.get a) s = .next t ∧ exec (.getv a) s = .next t

/-- What the synthesised and hardware cells read (R62, R212, R220, R232, R400, R446): a running count is read from its
anchor, a stopped one is the held value. The ratio in which a Timer2-family anchor counts is the model's field of
assumption log 14. -/
def Obligations.SynthesisedReads : Prop :=
  ∀ s : State,
    (∀ k : Fin 8, (readReg (.cycle k) s).toNat = s.now.toNat / 256 ^ (k : Nat) % 256) ∧
    (∀ j : Fin 8, bit (readReg .fault s) j =
      (match j.val with
       | 0 => s.faults.schedDouble | 1 => s.faults.cycleWrap | 2 => s.faults.illegalCmd | 3 => s.faults.badReg
       | 4 => s.faults.unmodelled | 5 => s.faults.busDepth | _ => false)) ∧
    ((readReg .tmr0 s).toNat : Int) =
      (if s.t0.run then ((s.now.toNat : Int) - s.t0.anchor) / (t0Div s.t0.con : Int) % 256
       else (s.t0.held.toNat : Int)) ∧
    ((readReg .tmr1h s).toNat : Int) * 256 + ((readReg .tmr1l s).toNat : Int) =
      (if s.t1.run then (tin (t1Ratio s.t1.con) s.now.toNat - s.t1.anchor) / (t1Div s.t1.con : Int) % 65536
       else (s.t1.held.toNat : Int)) ∧
    (∀ x, ((readReg (.tmr x) s).toNat : Int) =
      (if (s.tm x).run then (tin (s.tm x).ratio s.now.toNat - (s.tm x).anchor) / (t2Div (s.tm x).con : Int) % 256
       else ((s.tm x).held.toNat : Int))) ∧
    ((readReg .ncoaccu s).toNat : Int) * 65536 + ((readReg .ncoacch s).toNat : Int) * 256 +
        ((readReg .ncoaccl s).toNat : Int) =
      (if bit s.nco.con 7 && decide (field s.nco.clk 0 2 < 2) && !s.sleeping then
        ((s.nco.acc.toNat : Int) + (s.nco.inc.toNat : Int) * (tin (ncoRatio s.nco) s.now.toNat - s.nco.anchor)) % 2 ^ 20
       else (s.nco.acc.toNat : Int))

/-- What the status registers read (R34, R38, R43, R49, R55, R56, R58, R60, R348): flags in bit 0, the run and gate bits
of the timers, the outputs' levels, the OUT bits of CLCnCON and NCOCON, and the oscillator's stable bits: the internal
RC's by tier, the PLL's, and OSTS. T1GVAL reads the gate at reset too: assumption log 37. -/
def Obligations.StatusReads : Prop :=
  ∀ s : State,
    let ok := s.osc.settled && (s.osc.state == .intRc || (s.osc.state == .ost && s.cfg.twoSpeed))
    let tier := (s.cfg.ircfTable.getD (field s.osc.con 3 4) (0, .lf)).2
    (∀ j : Fin 8, bit (readReg .t0stat s) j = (decide (j = 0) && s.t0.flag)) ∧
    (∀ j : Fin 8, bit (readReg .t1stat s) j =
      (match j.val with
       | 0 => s.t1.flag | 1 => t1GateOk s | 2 => s.t1.run || t1CountsEdges s | _ => false)) ∧
    (∀ x, ∀ j : Fin 8, bit (readReg (.tstat x) s) j =
      (match j.val with | 0 => (s.tm x).flag | 1 => (s.tm x).run | _ => false)) ∧
    (∀ i, ∀ j : Fin 8, bit (readReg (.ccpstat i) s) j =
      (match j.val with
       | 0 => (s.ccp i).flag | 1 => (s.ccp i).pin[0] == .H | 2 => (s.ccp i).pin[1] == .H
       | 3 => (s.ccp i).pin[2] == .H | 4 => (s.ccp i).pin[3] == .H | _ => false)) ∧
    (∀ n, bit (readReg (.clccon n) s) 5 = (s.clc n).out) ∧
    (∀ n, ∀ j : Fin 8, bit (readReg (.clcstat n) s) j = (decide (j = 0) && (s.clc n).flag)) ∧
    bit (readReg .ncocon s) 5 = (s.nco.out != bit s.nco.con 4) ∧
    (∀ j : Fin 8, bit (readReg .ncostat s) j = (decide (j = 0) && s.nco.flag)) ∧
    (∀ j : Fin 8, bit (readReg .adstat s) j = (decide (j = 0) && s.adc.flag)) ∧
    (∀ j : Fin 8, bit (readReg .oscstat s) j =
      (match j.val with
       | 0 => ok && tier == .hf | 1 => ok && tier == .lf | 2 => ok && tier == .mf | 4 => ok && tier == .hf
       | 5 => s.osc.state == .extStable | 6 => ok && bit s.osc.con 7 | _ => false))

/-- A PUT of a flag register writes bit 0 to the flag, with no `Irq`, and changes nothing else (R441). -/
def Obligations.FlagPuts : Prop :=
  ∀ (v : Byte) (s : State), let b := v.getLsbD 0
    exec (.putT0stat v) s = .next { s with t0 := { s.t0 with flag := b } } ∧
    exec (.putT1stat v) s = .next { s with t1 := { s.t1 with flag := b } } ∧
    exec (.putT2stat v) s = .next { s with t2 := { s.t2 with flag := b } } ∧
    exec (.putT4stat v) s = .next { s with t4 := { s.t4 with flag := b } } ∧
    exec (.putT6stat v) s = .next { s with t6 := { s.t6 with flag := b } } ∧
    exec (.putCcp1stat v) s = .next { s with ccp1 := { s.ccp1 with flag := b } } ∧
    exec (.putCcp2stat v) s = .next { s with ccp2 := { s.ccp2 with flag := b } } ∧
    exec (.putClc1stat v) s = .next { s with clc1 := { s.clc1 with flag := b } } ∧
    exec (.putClc2stat v) s = .next { s with clc2 := { s.clc2 with flag := b } } ∧
    exec (.putClc3stat v) s = .next { s with clc3 := { s.clc3 with flag := b } } ∧
    exec (.putClc4stat v) s = .next { s with clc4 := { s.clc4 with flag := b } } ∧
    exec (.putNcostat v) s = .next { s with nco := { s.nco with flag := b } } ∧
    exec (.putAdstat v) s = .next { s with adc := { s.adc with flag := b } }

/-- A PUT stores under the write mask and reaches no other register: for every cell, the PUT runs, leaves in the cell
the byte's writable bits, and leaves every other control register as it was, whatever it propagates to (R28, R160). The
bits that hardware may change meanwhile are left out: a capture's CCPRi, ASE, GO. -/
def Obligations.PutStoresOnlyItsRegister : Prop :=
  ∀ (r : Reg) (v : Byte) (s : State), ∃ t, exec (putRow v r) s = .next t ∧
    (hasControlByte r = true →
      controlByte t r &&& steadyBits r = v &&& wmask r &&& steadyBits r) ∧
    (∀ q, q ≠ r → controlByte t q &&& steadyBits q = controlByte s q &&& steadyBits q)

/-! ### Host inputs and the ADC -/

/-- The plain stores: SETV stores the signed microvolts as volts (R103, R427), a PUT of ADRESL, ADRESH, ADACQ or ADCON1
its byte (R160, R420), nothing else changes; and a PUT of CYCLE0 to CYCLE7, FAULT or OSCSTAT changes nothing at all
(R160). -/
def Obligations.PlainStores : Prop :=
  ∀ (uv : Long) (v : Byte) (s : State),
    (∀ ch, ch.val < s.cfg.nAdcCh →
      exec (.setv (.chan ch) uv) s = .next { s with vin := s.vin.set ch ((uv.toInt : Rat) / 1000000) }) ∧
    exec (.setv .vrefHi uv) s = .next { s with vrefhi := (uv.toInt : Rat) / 1000000 } ∧
    exec (.setv .vrefLo uv) s = .next { s with vreflo := (uv.toInt : Rat) / 1000000 } ∧
    exec (.putAdresl v) s = .next { s with adc := { s.adc with resl := v } } ∧
    exec (.putAdresh v) s = .next { s with adc := { s.adc with resh := v } } ∧
    exec (.putAdacq v) s = .next { s with adc := { s.adc with acq := v } } ∧
    exec (.putAdcon1 v) s = .next { s with adc := { s.adc with con1 := v &&& 0xF3 } } ∧
    exec (.putCycle0 v) s = .next s ∧ exec (.putCycle1 v) s = .next s ∧ exec (.putCycle2 v) s = .next s ∧
    exec (.putCycle3 v) s = .next s ∧ exec (.putCycle4 v) s = .next s ∧ exec (.putCycle5 v) s = .next s ∧
    exec (.putCycle6 v) s = .next s ∧ exec (.putCycle7 v) s = .next s ∧ exec (.putFault v) s = .next s ∧
    exec (.putOscstat v) s = .next s

/-- PUT ADCON0 (R420, R421). Idle: a new GO with ADON samples the channel (0 V for one at or past N_ADC_CH) and both
references and schedules the acquisition's end at `now + ADACQ`; with ADON = 0 it clears GO and warns; no GO only
stores. Busy: GO or ADON written 0 aborts, result and flag untouched; else the byte is only stored. -/
def Obligations.AdcStartsAndAborts : Prop :=
  ∀ (v : Byte) (s : State), s.firing = none →
    let c := v &&& 0x7F
    (s.adc.state = .idle → bit v 1 = true → bit s.adc.con0 1 = false → bit v 0 = true → ∃ q,
      exec (.putAdcon0 v) s = .next { s with
        adc := { s.adc with
          con0 := c, vhi := s.vrefhi, vlo := s.vreflo
          vin := if v.toNat / 4 % 32 < s.cfg.nAdcCh then s.vin[Fin.ofNat 32 (v.toNat / 4 % 32)] else 0
          state := .acquiring }
        queue := q, seq := s.seq + 1 } ∧
      ∀ e, e ∈ q ↔ (e ∈ s.queue ∧ e.trig ≠ .adcSeq) ∨ e = ⟨s.now.toNat + s.adc.acq.toNat, s.seq, .adcSeq⟩) ∧
    (s.adc.state = .idle → bit v 1 = true → bit s.adc.con0 1 = false → bit v 0 = false →
      exec (.putAdcon0 v) s = .next { s with
        adc := { s.adc with con0 := c &&& 0xFD }, out := s.out ++ [.warn .adcOff s.now.toNat] }) ∧
    (s.adc.state = .idle → bit v 1 = false →
      exec (.putAdcon0 v) s = .next { s with adc := { s.adc with con0 := c } }) ∧
    (s.adc.state ≠ .idle → bit v 1 = false ∨ bit v 0 = false →
      exec (.putAdcon0 v) s = .next { s with
        adc := { s.adc with con0 := c &&& 0xFD, state := .idle }
        queue := s.queue.filter (fun e => decide (e.trig ≠ .adcSeq)) }) ∧
    (s.adc.state ≠ .idle → bit v 1 = true → bit v 0 = true → bit s.adc.con0 1 = true →
      exec (.putAdcon0 v) s = .next { s with adc := { s.adc with con0 := c } })

/-- The STEP that ends the acquisition (R422, R426): the sequencer converts, and ADC_SEQ is due `ceil((ADC_BITS +
ADC_GUARD) · Tad)` cycles on, Tad the ADCS entry of the clock table; a delay of no cycle is left out. -/
def Obligations.AcquisitionEnds : Prop :=
  ∀ (rest : List Event) (s : State), s.dueNext .adcSeq rest → s.adc.state = .acquiring →
    let c := s.now.toNat + 1
    let n := s.cfg.adcBits + s.cfg.adcGuard
    let delay : Nat := match s.adc.con1.toNat / 16 % 8 with
      | 0 => (n + 1) / 2 | 1 => 2 * n | 2 => 8 * n | 4 => n | 5 => 4 * n | 6 => 16 * n
      | _ => ((n : Rat) * s.cfg.adcFrcTad).ceil.toNat
    0 < delay → ∃ q,
      exec .step s = .next { s with
        now := s.now + 1, queue := q, seq := s.seq + 1, adc := { s.adc with state := .converting } } ∧
      ∀ e, e ∈ q ↔ (e ∈ rest ∧ e.trig ≠ .adcSeq) ∨ e = ⟨c + delay, s.seq, .adcSeq⟩

/-- The STEP that reaches the conversion's end (R423, R424, R425), with ADC_SEQ alone due and only hosts listening: the
sample is scaled over the reference span, rounded, clamped and justified; GO is cleared, the sequencer idle, the flag
raised with one `Irq`, and ADC_DONE published with the result. A span that is not positive warns, and gives 0:
assumption log 19, U6 of 93_implementation_defined.md lets a model take any value. -/
def Obligations.ConversionCompletes : Prop :=
  ∀ (k : Nat) (rest : List Event) (s : State), s.Inv → s.now ≠ BitVec.allOnes 64 → s.adc.state = .converting →
    s.queue = ⟨s.now.toNat + 1, k, .adcSeq⟩ :: rest → (∀ e ∈ rest, s.now.toNat + 1 < e.cycle) →
    (∀ r ∈ s.subsOf .adcDone, r.isHost = true) → 0 < s.cfg.busDepthMax →
    let n := s.cfg.adcBits
    let c := s.now.toNat + 1
    let top : Nat := 2 ^ n - 1
    let r : Nat := if s.adc.vhi ≤ s.adc.vlo then 0
      else min ((s.adc.vin - s.adc.vlo) / (s.adc.vhi - s.adc.vlo) * (top : Rat) + 1 / 2).floor.toNat top
    let w : Nat := if bit s.adc.con1 7 = true then r else r * 2 ^ (16 - n)
    exec .step s = .next { s with
      now := s.now + 1, queue := rest
      adc := { s.adc with
        resh := BitVec.ofNat 8 (w / 256), resl := BitVec.ofNat 8 w, con0 := s.adc.con0 &&& 0xFD, state := .idle
        flag := true }
      out := s.out ++ (if s.adc.vhi ≤ s.adc.vlo then [.warn .adcSpan c] else []) ++ [.irq .adc c] ++
        (s.subsOf .adcDone).map (fun h => .recv h .adcDone 0 r c) }

/-! ### Timer0 -/

/-- PUT TMR0 (R213, R217). Running: the anchor is set so that the count is `v`, the overflow is due `(256 - v) · P0`
cycles on, and `n` cycles on the register reads `(v + floor(n / P0)) mod 256`. Stopped: the value is held and the stored
prescaler restarts. -/
def Obligations.PutTmr0Anchors : Prop :=
  ∀ (v : Byte) (s : State),
    let p := t0Div s.t0.con
    (s.t0.run = true → ∃ q, let t : State := { s with
        t0 := { s.t0 with anchor := (s.now.toNat : Int) - (v.toNat : Int) * (p : Int) }, queue := q, seq := s.seq + 1 }
      exec (.putTmr0 v) s = .next t ∧
      (∀ e, e ∈ q ↔ (e ∈ s.queue ∧ e.trig ≠ .t0Ovf) ∨ e = ⟨s.now.toNat + (256 - v.toNat) * p, s.seq, .t0Ovf⟩) ∧
      ∀ n, s.now.toNat + n < 2 ^ 64 →
        (readReg .tmr0 { t with now := s.now + BitVec.ofNat 64 n }).toNat = (v.toNat + n / p) % 256) ∧
    (s.t0.run = false →
      exec (.putTmr0 v) s = .next { s with t0 := { s.t0 with held := v, pre := ⟨s.t0.pre.div - 1, s.t0.pre.div⟩ } } ∧
      readReg .tmr0 { s with t0 := { s.t0 with held := v, pre := ⟨s.t0.pre.div - 1, s.t0.pre.div⟩ } } = v)

/-- PUT T0CON (R214). A write of the current byte changes nothing at all. Else the count `V` is kept: started, it goes
on from `V` under the new divisor, its overflow `(256 - V) · P0'` cycles on; stopped, `V` is held and no overflow is
due. A new divisor or clock select restarts the stored prescaler. A change of T0SE alone, or of PS alone while PSA = 1, is
a change: assumption logs 39 and 40. -/
def Obligations.PutT0conKeepsCount : Prop :=
  ∀ (v : Byte) (s : State),
    let c := v &&& 0xBF
    let n := readReg .tmr0 s
    let p := t0Div c
    let pre : Prescaler := if p ≠ t0Div s.t0.con ∨ bit c 5 ≠ bit s.t0.con 5 then ⟨p - 1, p⟩ else s.t0.pre
    (c = s.t0.con → exec (.putT0con v) s = .next s) ∧
    (c ≠ s.t0.con → bit c 7 = true → bit c 5 = false → s.sleeping = false → ∃ q,
      exec (.putT0con v) s = .next { s with
        t0 := { s.t0 with con := c, pre := pre, run := true
                          anchor := (s.now.toNat : Int) - (n.toNat : Int) * (p : Int) }
        queue := q, seq := s.seq + 1 } ∧
      ∀ e, e ∈ q ↔ (e ∈ s.queue ∧ e.trig ≠ .t0Ovf) ∨ e = ⟨s.now.toNat + (256 - n.toNat) * p, s.seq, .t0Ovf⟩) ∧
    (c ≠ s.t0.con → (bit c 7 = false ∨ bit c 5 = true ∨ s.sleeping = true) →
      exec (.putT0con v) s = .next { s with
        t0 := { s.t0 with con := c, pre := pre, run := false, held := n }
        queue := s.queue.filter (fun e => decide (e.trig ≠ .t0Ovf)) })

/-- The STEP that reaches Timer0's overflow (R215), with T0_OVF alone due and only hosts listening: the count is 0 from
this cycle, the next overflow is `256 · P0` cycles on, the flag is raised with one `Irq`, and T0_OVF is published after
it. -/
def Obligations.Timer0Overflows : Prop :=
  ∀ (k : Nat) (rest : List Event) (s : State), s.Inv → s.now ≠ BitVec.allOnes 64 →
    s.queue = ⟨s.now.toNat + 1, k, .t0Ovf⟩ :: rest → (∀ e ∈ rest, s.now.toNat + 1 < e.cycle) →
    (∀ r ∈ s.subsOf .t0Ovf, r.isHost = true) → 0 < s.cfg.busDepthMax →
    let c := s.now.toNat + 1
    ∃ q, exec .step s = .next { s with
        now := s.now + 1, queue := q, seq := s.seq + 1
        t0 := { s.t0 with anchor := (c : Int), flag := true }
        out := s.out ++ [.irq .tmr0 c] ++ (s.subsOf .t0Ovf).map (fun r => .recv r .t0Ovf 0 1 c) } ∧
      ∀ e, e ∈ q ↔ e ∈ rest ∨ e = ⟨c + 256 * t0Div s.t0.con, s.seq, .t0Ovf⟩

/-! ### Timer1 -/

/-- PUT TMR1L and PUT TMR1H (R219, R220, R222): the byte written reads back at once and the other byte keeps its current
value, counting or not. The breakpoint is recomputed: none when Timer1 does not run internally; else strictly ahead, at
the first cycle that reaches the recorded count, which is the next rollover or the nearest compare value past the count.
Timer1's registers, flag, gate and compare list stand, and so does everything outside Timer1. -/
def Obligations.PutTmr1ReadsBack : Prop :=
  ∀ (v : Byte) (s : State),
    let wrote : Timer1 → List Event → State → Prop := fun u q t =>
      u.con = s.t1.con ∧ u.gcon = s.t1.gcon ∧ u.flag = s.t1.flag ∧ u.gateTff = s.t1.gateTff ∧
      u.gateLvl = s.t1.gateLvl ∧ u.cmp = s.t1.cmp ∧ u.pre.div = s.t1.pre.div ∧
      (∀ e, e.trig ≠ .t1Brk → (e ∈ q ↔ e ∈ s.queue)) ∧
      let n : Nat := (readReg .tmr1h t).toNat * 256 + (readReg .tmr1l t).toNat
      (u.run = false → t.pending .t1Brk = none ∧ u.breakValue = none) ∧
      (u.run = true → ∃ m c ins, u.breakValue = some m ∧ t.pending .t1Brk = some (c, ins) ∧ t.now.toNat < c ∧
        (c : Int) = cycleOf (t1Ratio u.con) ((u.anchor + (m : Int) * (t1Div u.con : Int) : Int) : Rat) ∧
        n < m ∧ m ≤ 65536 ∧ (∀ e ∈ u.cmp, n < e.2.toNat → m ≤ e.2.toNat) ∧
        (m = 65536 ∨ ∃ e ∈ u.cmp, e.2.toNat = m))
    (∃ u q n, let t : State := { s with t1 := u, queue := q, seq := n }
      exec (.putTmr1l v) s = .next t ∧ readReg .tmr1l t = v ∧ readReg .tmr1h t = readReg .tmr1h s ∧ wrote u q t) ∧
    (∃ u q n, let t : State := { s with t1 := u, queue := q, seq := n }
      exec (.putTmr1h v) s = .next t ∧ readReg .tmr1h t = v ∧ readReg .tmr1l t = readReg .tmr1l s ∧ wrote u q t)

/-- PUT T1CON (R203, R223): the byte is stored under its mask and the count is kept, whatever is switched; when CS, CKPS
and ON stand it is only stored. Nothing outside Timer1 changes but its own breakpoint. -/
def Obligations.PutT1conKeepsCount : Prop :=
  ∀ (v : Byte) (s : State), ∃ u q n, let t : State := { s with t1 := u, queue := q, seq := n }
    exec (.putT1con v) s = .next t ∧ u.con = v &&& 0xFD ∧
    readReg .tmr1l t = readReg .tmr1l s ∧ readReg .tmr1h t = readReg .tmr1h s ∧
    u.gcon = s.t1.gcon ∧ u.flag = s.t1.flag ∧ u.gateTff = s.t1.gateTff ∧ u.gateLvl = s.t1.gateLvl ∧ u.cmp = s.t1.cmp ∧
    (∀ e, e.trig ≠ .t1Brk → (e ∈ q ↔ e ∈ s.queue)) ∧
    (field v 6 2 = field s.t1.con 6 2 → field v 4 2 = field s.t1.con 4 2 → bit v 0 = bit s.t1.con 0 →
      t = { s with t1 := { s.t1 with con := v &&& 0xFD } })

/-- PUT T1GCON (R224, R186): the byte is stored, the count is kept, and Timer1 then holds exactly the sink or attachment
of the selected gate source, none while GE = 0; no one else's moves. A `Refused` source so held raises UNMODELLED
(assumption log 38). -/
def Obligations.PutT1gconSubscribes : Prop :=
  ∀ (v : Byte) (s : State),
    let want : Option SigDesc :=
      if bit v 7 = true then some (s.cfg.t1GateTable.getD (v.toNat % 4) .low) else none
    ∃ t, exec (.putT1gcon v) s = .next t ∧ t.t1.gcon = v &&& 0xC3 ∧ t.t1.con = s.t1.con ∧
      readReg .tmr1l t = readReg .tmr1l s ∧ readReg .tmr1h t = readReg .tmr1h s ∧
      (∀ p : PinIx, .t1g ∈ t.pins[p].sinks ↔ want = some (.pin p)) ∧
      (∀ k, .t1Gate ∈ t.subsOf k ↔ ∃ sub, want = some (.bus k sub)) ∧
      (∀ (p : PinIx) (j : SinkId), j ≠ .t1g → (j ∈ t.pins[p].sinks ↔ j ∈ s.pins[p].sinks)) ∧
      (∀ (k : ChanKind) (j : RecvId), j ≠ .t1Gate → (j ∈ t.subsOf k ↔ j ∈ s.subsOf k)) ∧
      t.faults = (if want = some .refused then s.faults.add .unmodelled else s.faults) ∧
      t.out = s.out ∧ t.now = s.now ∧ (∀ y, t.tm y = s.tm y) ∧ (∀ j, t.ccp j = s.ccp j) ∧ t.t0 = s.t0 ∧
      (∀ e, e.trig ≠ .t1Brk → (e ∈ t.queue ↔ e ∈ s.queue))

/-! ### Timer2, Timer4, Timer6 -/

/-- PUT TMR2, TMR4 and TMR6 (R232, R234): the count reads `v` at once, under an active level reset too (assumption log
32); the registers, the flag, the postscaler and the start state stand, and so does everything else but the instance's
breakpoint. Counting cycles with no duty armed, the next breakpoint is the period match, or past PRx the wrap at 256
(R239). -/
def Obligations.PutTmrxRestarts : Prop :=
  ∀ (x : T2Id) (v : Byte) (s : State),
    ∃ u q n, let t : State := { s with queue := q, seq := n }.setTm x u
      exec (putRow v (.tmr x)) s = .next t ∧ readReg (.tmr x) t = v ∧
      { u with run := false, anchor := 0, held := 0, breakValue := none, breakMask := 0, ratio := ⟨1, 1⟩ } =
        { s.tm x with run := false, anchor := 0, held := 0, breakValue := none, breakMask := 0, ratio := ⟨1, 1⟩ } ∧
      (∀ e, e.trig ≠ .tBrk x → (e ∈ q ↔ e ∈ s.queue)) ∧
      (u.run = false → t.pending (.tBrk x) = none) ∧
      (u.run = true → u.ratio = ⟨1, 1⟩ → u.pwm = [] → ∃ ins, t.pending (.tBrk x) =
        some (s.now.toNat + ((if v.toNat ≤ u.pr.toNat then u.pr.toNat + 1 else 256) - v.toNat) * t2Div u.con, ins))

/-- PUT PR2, PR4 and PR6, and PUT T2CLKCON, T4CLKCON and T6CLKCON (R203, R235, R236): the byte is stored and the count
is kept; a clock select written with its current value changes nothing. Nothing outside the instance changes but its
breakpoint. -/
def Obligations.PutPeriodAndClockKeepCount : Prop :=
  ∀ (x : T2Id) (v : Byte) (s : State),
    (∃ u q n, let t : State := { s with queue := q, seq := n }.setTm x u
      exec (putRow v (.pr x)) s = .next t ∧ readReg (.tmr x) t = readReg (.tmr x) s ∧
      { u with breakValue := none, breakMask := 0 } = { s.tm x with pr := v, breakValue := none, breakMask := 0 } ∧
      (∀ e, e.trig ≠ .tBrk x → (e ∈ q ↔ e ∈ s.queue))) ∧
    (∃ u q n, let t : State := { s with queue := q, seq := n }.setTm x u
      exec (putRow v (.tclkcon x)) s = .next t ∧ readReg (.tmr x) t = readReg (.tmr x) s ∧
      u.clkcon = v &&& 0x0F ∧ u.con = (s.tm x).con ∧ u.pr = (s.tm x).pr ∧ u.post = (s.tm x).post ∧
      u.armed = (s.tm x).armed ∧ u.ers = (s.tm x).ers ∧ u.flag = (s.tm x).flag ∧
      (∀ e, e.trig ≠ .tBrk x → (e ∈ q ↔ e ∈ s.queue)) ∧
      (v &&& 0x0F = (s.tm x).clkcon → t = s))

/-- PUT T2CON, T4CON and T6CON (R236): the current byte changes nothing. Else the byte is stored; the count is kept (a
policy with no level reset; for one with, assumption log 13); a new OUTPS reloads the postscaler; ON = 0 disarms and a
software start arms as ON is set (a policy with no level start). A change of ON recomputes the reset subscription (R186,
R237): the instance then holds exactly the selected source's sink or attachment, and takes its level if it is gained;
with ON standing no subscription moves. Nothing else changes, in the instance or outside it, but its breakpoint. A
`Refused` entry raises UNMODELLED where it is so selected (assumption log 38) and reads L (assumption log 42). -/
def Obligations.PutTxcon : Prop :=
  ∀ (x : T2Id) (v : Byte) (s : State),
    let old := s.tm x
    let m := t2Policy s.cfg old.hlt
    ∃ t, exec (putRow v (.tcon x)) s = .next t ∧ (v = old.con → t = s) ∧ (t.tm x).con = v ∧
      (policyReset m ≠ .levelL → policyReset m ≠ .levelH → readReg (.tmr x) t = readReg (.tmr x) s) ∧
      (t.tm x).post = (if v.toNat % 16 = old.con.toNat % 16 then old.post else ⟨v.toNat % 16, v.toNat % 16 + 1⟩) ∧
      (policyStart m ≠ .levelL → policyStart m ≠ .levelH → v ≠ old.con →
        (t.tm x).armed = (bit v 7 && (old.armed || (!bit old.con 7 && decide (policyStart m = .software))))) ∧
      { (t.tm x).standing with con := v, post := old.post, armed := old.armed, ers := old.ers } =
        { old.standing with con := v } ∧
      t = { s with
        queue := t.queue, seq := t.seq, pins := t.pins, subs := t.subs, faults := t.faults }.setTm x (t.tm x) ∧
      sameEventsBut [.tBrk x] s.queue t.queue ∧
      (bit v 7 = bit old.con 7 →
        t.pins = s.pins ∧ t.subs = s.subs ∧ t.faults = s.faults ∧ (t.tm x).ers = old.ers) ∧
      (bit v 7 ≠ bit old.con 7 →
        let src := t2RstWant s.cfg { old with con := v }
        (∀ p : PinIx, .tRst x ∈ t.pins[p].sinks ↔ src = some (.pin p)) ∧
        (∀ k, .tRst x ∈ t.subsOf k ↔ ∃ sub, src = some (.bus k sub)) ∧
        (∀ (p : PinIx) (j : SinkId), j ≠ .tRst x → (j ∈ t.pins[p].sinks ↔ j ∈ s.pins[p].sinks)) ∧
        (∀ (k : ChanKind) (j : RecvId), j ≠ .tRst x → (j ∈ t.subsOf k ↔ j ∈ s.subsOf k)) ∧
        (∀ p : PinIx, { t.pins[p] with sinks := [] } = { s.pins[p] with sinks := [] }) ∧
        t.faults = (if src = some .refused then s.faults.add .unmodelled else s.faults) ∧
        (t.tm x).ers = (match src with
          | none => old.ers
          | some (.pin p) => if s.pins[p].lvl = .H then .H else .L
          | some _ => .L))

/-- PUT T2HLT, T4HLT, T6HLT, T2RST, T4RST and T6RST (R237, R186): the byte is stored, and the instance then holds
exactly the sink or attachment of its selected reset source while its policy uses the reset signal and ON = 1, none
otherwise; no one else's moves. The count is kept (a policy with no level reset). A `Refused` entry raises UNMODELLED
where it is so selected: assumption log 38. -/
def Obligations.ResetSelectionSubscribes : Prop :=
  ∀ (x : T2Id) (v : Byte) (s : State),
    let ok : Timer2 → State → Prop := fun u t =>
      (∀ p : PinIx, .tRst x ∈ t.pins[p].sinks ↔ t2RstWant s.cfg u = some (.pin p)) ∧
      (∀ k, .tRst x ∈ t.subsOf k ↔ ∃ sub, t2RstWant s.cfg u = some (.bus k sub)) ∧
      (∀ (p : PinIx) (j : SinkId), j ≠ .tRst x → (j ∈ t.pins[p].sinks ↔ j ∈ s.pins[p].sinks)) ∧
      (∀ (k : ChanKind) (j : RecvId), j ≠ .tRst x → (j ∈ t.subsOf k ↔ j ∈ s.subsOf k)) ∧
      t.faults = (if t2RstWant s.cfg u = some .refused then s.faults.add .unmodelled else s.faults) ∧
      (policyReset (t2Policy s.cfg u.hlt) ≠ .levelL → policyReset (t2Policy s.cfg u.hlt) ≠ .levelH →
        readReg (.tmr x) t = readReg (.tmr x) s) ∧
      t.out = s.out ∧ t.now = s.now ∧ (∀ j, t.ccp j = s.ccp j) ∧ t.t1 = s.t1 ∧ (∀ y, y ≠ x → t.tm y = s.tm y) ∧
      (∀ e, e.trig ≠ .tBrk x → (e ∈ t.queue ↔ e ∈ s.queue))
    (∃ t, exec (putRow v (.thlt x)) s = .next t ∧ (t.tm x).hlt = v ∧ ok { s.tm x with hlt := v } t) ∧
    (∃ t, exec (putRow v (.trst x)) s = .next t ∧ (t.tm x).rst = v &&& 0x1F ∧ ok { s.tm x with rst := v &&& 0x1F } t)

/-- The STEP that reaches a period match (R241), counting cycles, with no PWM unit and only hosts listening: T2_MATCH is
published, the postscaler steps and on its tick the flag is raised. A free-running instance starts its next period at
this cycle; a one-shot clears ON, disarms and stops at 0; a monostable disarms, and stops at 0 if its policy needs a
start. -/
def Obligations.Timer2PeriodMatch : Prop :=
  ∀ (x : T2Id) (k : Nat) (rest : List Event) (s : State), s.Inv → s.now ≠ BitVec.allOnes 64 →
    s.queue = ⟨s.now.toNat + 1, k, .tBrk x⟩ :: rest → (∀ e ∈ rest, s.now.toNat + 1 < e.cycle) →
    (s.tm x).run = true → t2RunCond s x = true → (s.tm x).ratio = ⟨1, 1⟩ → (s.tm x).pwm = [] → (s.tm x).breakMask = 1 →
    (s.tm x).anchor + (((s.tm x).pr.toNat + 1) * t2Div (s.tm x).con : Nat) = (s.now.toNat : Int) + 1 →
    (∀ r ∈ s.subsOf .t2Match, r.isHost = true) → 0 < s.cfg.busDepthMax →
    let c := s.now.toNat + 1
    let fin := policyEnd (t2Policy s.cfg (s.tm x).hlt)
    ∃ t, exec .step s = .next t ∧ t.now = s.now + 1 ∧
      t.out = s.out ++ (s.subsOf .t2Match).map (fun r => .recv r .t2Match x.num 1 c) ++
        (if (s.tm x).post.cnt = 0 then [.irq (.tmrx x) c] else []) ∧
      (t.tm x).flag = ((s.tm x).flag || decide ((s.tm x).post.cnt = 0)) ∧
      (t.tm x).post.cnt = (if (s.tm x).post.cnt = 0 then (s.tm x).post.div - 1 else (s.tm x).post.cnt - 1) ∧
      readReg (.tmr x) t = 0 ∧
      (fin = .free → (t.tm x).con = (s.tm x).con ∧ (t.tm x).run = true ∧
        t.pending (.tBrk x) = some (c + ((s.tm x).pr.toNat + 1) * t2Div (s.tm x).con, s.seq)) ∧
      (fin = .oneshot → (t.tm x).con = (s.tm x).con &&& 0x7F ∧ (t.tm x).run = false ∧ (t.tm x).armed = false ∧
        t.pending (.tBrk x) = none) ∧
      (fin = .monostable → (t.tm x).con = (s.tm x).con ∧ (t.tm x).armed = false ∧
        (policyStart (t2Policy s.cfg (s.tm x).hlt) ≠ .none → (t.tm x).run = false ∧ t.pending (.tBrk x) = none))

/-- The reactions to the external reset signal (R238, R240, R245): a pin whose one listener is the instance's selected
reset input changes level. RESET and STOP_ZERO leave the count 0, START arms, STOP stops, and all but the first two keep
the count. Which changes are NOP is the model's reading: assumption log 33. -/
def Obligations.ResetSignalReactions : Prop :=
  ∀ (x : T2Id) (p : PinIx) (l : Level) (s : State), p.val < s.cfg.nPin →
    s.pins[p].sinks = [.tRst x] → s.pins[p].src = none →
    t2RstWant s.cfg (s.tm x) = some (.pin p) → l ≠ .Z → (s.tm x).ers ≠ .Z → l ≠ (s.tm x).ers → s.pins[p].lvl ≠ l →
    s.pinDepth < s.cfg.busDepthMax →
    let act := hltAction (t2Policy s.cfg (s.tm x).hlt) (s.tm x).ers l
    ∃ t, exec (.drive p l) s = .next t ∧ (t.tm x).ers = l ∧
      (act = .reset ∨ act = .stopZero → readReg (.tmr x) t = 0) ∧
      (act ≠ .reset → act ≠ .stopZero → readReg (.tmr x) t = readReg (.tmr x) s) ∧
      (act = .start → (t.tm x).armed = true) ∧ (act = .stop → (t.tm x).run = false) ∧
      (act = .nop → (t.tm x).armed = (s.tm x).armed) ∧
      (t.tm x).con = (s.tm x).con ∧ t.out = s.out ++ [.pin p l s.now.toNat] ∧ t.subs = s.subs ∧ (∀ j, t.ccp j = s.ccp j) ∧
      (∀ y, y ≠ x → t.tm y = s.tm y) ∧ (∀ e, e.trig ≠ .tBrk x → (e ∈ t.queue ↔ e ∈ s.queue))

/-! ### Capture, compare, PWM -/

/-- PUT CCPR1L, CCPR1H, CCPR2L, CCPR2H (R281). Outside the compare modes the byte is only stored. In one, the unit's
entry in Timer1's list becomes the new pair and the breakpoint is recomputed (R219): none when Timer1 does not run
internally; else the first count past the present one that is a rollover or a listed value, at the first cycle that
reaches it. -/
def Obligations.CompareRegisters : Prop :=
  ∀ (i : CcpId) (v : Byte) (s : State),
    let moved : Ccp → State → Prop := fun u t =>
      t = { s with t1 := t.t1, queue := t.queue, seq := t.seq }.setCcp i u ∧
      t.t1.cmp = s.t1.cmp.map (fun e => if e.1 = i then (i, pairOf u.rh u.rl) else e) ∧
      { t.t1 with cmp := [], breakValue := none, breakKind := {} } =
        { s.t1 with cmp := [], breakValue := none, breakKind := {} } ∧
      sameEventsBut [.t1Brk] s.queue t.queue ∧
      (s.t1.run = false → t.t1.breakValue = none ∧ t.pending .t1Brk = none) ∧
      (s.t1.run = true → s.t1.anchor ≤ tin (t1Ratio s.t1.con) s.now.toNat →
        let n : Int := (tin (t1Ratio s.t1.con) s.now.toNat - s.t1.anchor) / (t1Div s.t1.con : Int)
        ∃ m c ins : Nat, t.t1.breakValue = some m ∧ t.pending .t1Brk = some (c, ins) ∧
          (c : Int) = cycleOf (t1Ratio s.t1.con) ((s.t1.anchor + (m : Int) * (t1Div s.t1.con : Int) : Int) : Rat) ∧
          n < m ∧ (m % 65536 = 0 ∨ ∃ e ∈ t.t1.cmp, e.2.toNat = m % 65536) ∧
          ∀ j : Nat, n < j → j < m → j % 65536 ≠ 0 ∧ ∀ e ∈ t.t1.cmp, e.2.toNat ≠ j % 65536)
    (isCompareMode (ccpMode (s.ccp i)) = false →
      exec (putRow v (.ccprl i)) s = .next (s.setCcp i { s.ccp i with rl := v }) ∧
      exec (putRow v (.ccprh i)) s = .next (s.setCcp i { s.ccp i with rh := v })) ∧
    (isCompareMode (ccpMode (s.ccp i)) = true →
      (∃ t, exec (putRow v (.ccprl i)) s = .next t ∧ moved { s.ccp i with rl := v } t) ∧
      (∃ t, exec (putRow v (.ccprh i)) s = .next t ∧ moved { s.ccp i with rh := v } t))

/-- PUT CCP1CON, CCP2CON, CCP1TSEL and CCP2TSEL (R280, R291). With MODE, PM and PTSEL standing the byte is only stored;
a change of MODE[1:0] within 11xx is a change of MODE (assumption log 30). Else the unit leaves the lists of its old
mode and joins those of the new one, with its compare value; a capture mode loads the prescaler's divisor; and, its
outputs heard by hosts alone, a compare mode starts low (clear mode high), PWM starts inactive, and an output that the
mode does not use is Z. -/
def Obligations.CcpModeWrites : Prop :=
  ∀ (i : CcpId) (v : Byte) (s : State),
    let u := s.ccp i
    let old := field u.con 0 4
    let wrote : Byte → Byte → State → Prop := fun con tsel t =>
      let m := field con 0 4
      if m = old ∧ field con 6 2 = field u.con 6 2 ∧ field tsel 0 2 = field u.tsel 0 2 then
        t = s.setCcp i { u with con := con, tsel := tsel }
      else
        (t.ccp i).con = con ∧ (t.ccp i).tsel = tsel ∧
        t.t1.cmp = (if isCompareMode old then s.t1.cmp.filter (fun e => e.1 != i) else s.t1.cmp) ++
          (if isCompareMode m then [(i, pairOf u.rh u.rl)] else []) ∧
        (∀ x, (t.tm x).pwm =
          (if 12 ≤ old ∧ ptselTimer (field u.tsel 0 2) = x then (s.tm x).pwm.filter (fun j => j != i)
            else (s.tm x).pwm) ++
          (if 12 ≤ m ∧ ptselTimer (field tsel 0 2) = x then [i] else [])) ∧
        (4 ≤ m → m < 8 → (t.ccp i).capPre.div = if m = 7 then 16 else if m = 6 then 4 else 1) ∧
        (s.ccpAlone i →
          (∀ k : Fin 4, (t.ccp i).pin[k] =
            if 12 ≤ m then
              (if outputUsed i (t.ccp i) k = false then .Z else if u.shutdown then pssLevel u k
                else if bit u.pol k then .H else .L)
            else if k = 0 ∧ m ∈ [1, 2, 8] then .L else if k = 0 ∧ m = 9 then .H else .Z) ∧
          (12 ≤ m → (t.ccp i).mod = .L ∧ (t.ccp i).dutyArmed = false) ∧
          (isCompareMode old = true → t.pending (.ccpPulse i) = none) ∧
          (12 ≤ old → t.pending (.ccpDb i) = none ∧ (t.ccp i).dbTarget = none) ∧
          (∀ j, j ≠ i → t.ccp j = s.ccp j) ∧ t.t0 = s.t0 ∧ t.pins = s.pins ∧ t.faults = s.faults)
    (∃ t, exec (putRow v (.ccpcon i)) s = .next t ∧
      wrote (v &&& (match i with | .ccp1 => 0xFF | .ccp2 => 0x3F)) u.tsel t) ∧
    (∃ t, exec (putRow v (.ccptsel i)) s = .next t ∧ wrote u.con (v &&& 0xC3) t)

/-- What an output shows (R283), and PUT PWM1CON, PWM2CON, CCP1POL and CCP2POL (R282): the byte is stored and the
outputs shown anew, each change of a 0/1 reading published in the order A to D; a pending dead-band turn-on keeps its
cycle. -/
def Obligations.OutputsShown : Prop :=
  (∀ (i : CcpId) (u : Ccp) (k : Fin 4), outputLevel i u k =
    if 12 ≤ field u.con 0 4 then
      (if k = 0 ∨ (i = .ccp1 ∧ ((field u.con 6 2 = 2 ∧ k = 1) ∨ field u.con 6 2 = 1 ∨ field u.con 6 2 = 3)) then
        (if u.shutdown then
          (match (if k = 0 ∨ k = 2 then field u.as 2 2 else field u.as 0 2) with | 0 => .L | 1 => .H | _ => .Z)
        else if bit u.pol k then (match u.out[k] with | .L => .H | .H => .L | .Z => .Z)
        else u.out[k])
      else .Z)
    else if k = 0 ∧ field u.con 0 4 ∈ [1, 2, 8, 9] then u.out[k] else .Z) ∧
  ∀ (i : CcpId) (v : Byte) (s : State), s.ccpAlone i →
    let one : Level → Nat := fun l => if l = .H then 1 else 0
    let shown : Ccp → State := fun u =>
      { s with
        out := s.out ++ (List.finRange 4).flatMap (fun k =>
          if one (outputLevel i u k) = one (s.ccp i).pin[k] then []
          else s.heard .pwmEdge ((match i with | .ccp1 => 0 | .ccp2 => 4 : Nat) + (k : Nat)) (one (outputLevel i u k)) s.now.toNat)
      }.setCcp i { u with pin := Vector.ofFn (outputLevel i u) }
    exec (putRow v (.pwmcon i)) s = .next (shown { s.ccp i with pwmcon := v }) ∧
    exec (putRow v (.ccppol i)) s = .next (shown { s.ccp i with pol := v &&& 0x0F })

/-- PUT CCP1AS and CCP2AS (R186, R310, R312). In every state the unit then holds exactly the sink or attachment of its
shutdown source, none for ASRC = 0, and no one else's moves. Its outputs heard by hosts alone, it is shut down exactly
if the byte says so or the signal is active, ASE says the same, a shutdown that begins drops the modulation, the armed
duty match and the pending turn-on, and every output shows its level: where no entry of the table is a PWM edge, which
the unit's own outputs would feed back. The level that the unit keeps of its signal, taken anew when the source changes,
is the model's reading: assumption logs 9 and 10; a `Refused` source reads L: assumption log 42. -/
def Obligations.ShutdownWrites : Prop :=
  ∀ (i : CcpId) (v : Byte) (s : State),
    let u := s.ccp i
    let src : Byte → Option SigDesc := fun b =>
      if b.toNat / 16 % 8 = 0 then none else some (s.cfg.ccpAsTable.getD (b.toNat / 16 % 8) .low)
    let lvl : Level := if src v = src u.as then u.asLvl else
      match src v with | some (.pin p) => (if s.pins[p].lvl = .H then .H else .L) | _ => .L
    let off : Bool := bit v 7 || ((src v).isSome && lvl == .H)
    ∃ t, exec (putRow v (.ccpas i)) s = .next t ∧
      (∀ p : PinIx, .ccpShut i ∈ t.pins[p].sinks ↔ src v = some (.pin p)) ∧
      (∀ k, .ccpAs i ∈ t.subsOf k ↔ ∃ sub, src v = some (.bus k sub)) ∧
      (∀ (p : PinIx) (j : SinkId), j ≠ .ccpShut i → (j ∈ t.pins[p].sinks ↔ j ∈ s.pins[p].sinks)) ∧
      (∀ (k : ChanKind) (r : RecvId), r ≠ .ccpAs i → (r ∈ t.subsOf k ↔ r ∈ s.subsOf k)) ∧
      (t.faults.unmodelled = (s.faults.unmodelled || decide (src v = some .refused))) ∧
      (s.ccpAlone i → (∀ d ∈ s.cfg.ccpAsTable, ∀ sub, d ≠ .bus .pwmEdge sub) →
        (t.ccp i).shutdown = off ∧ (t.ccp i).as = (if off then v ||| 0x80 else v &&& 0x7F) ∧
        (t.ccp i).asLvl = lvl ∧ (∀ k : Fin 4, (t.ccp i).pin[k] = outputLevel i (t.ccp i) k) ∧
        (off = true → u.shutdown = false → (t.ccp i).mod = .L ∧ (t.ccp i).dutyArmed = false ∧
          (t.ccp i).dbTarget = none ∧ t.pending (.ccpDb i) = none) ∧
        (∀ j, j ≠ i → t.ccp j = s.ccp j) ∧ t.t0 = s.t0 ∧ t.t1 = s.t1 ∧ t.osc = s.osc ∧ t.nco = s.nco ∧ t.adc = s.adc)

/-- The STEP that reaches a compare match (R225, R229, R290): Timer1 counts cycles and its breakpoint is unit `i`'s
value alone. Set, clear and toggle drive output A, interrupt drives nothing; the flag is raised with one `Irq`; CLRT
restarts the count from 0, else it stands at the matched value. -/
def Obligations.CompareMatches : Prop :=
  ∀ (i : CcpId) (rest : List Event) (m : Nat) (s : State), s.dueNext .t1Brk rest → s.ccpAlone i → s.Running →
    let u := s.ccp i
    let mode := field u.con 0 4
    let c := s.now.toNat + 1
    s.t1.run = true → t1Cs s.t1.con = 0 → s.t1.cmp = [(i, ccpr u)] → s.t1.breakValue = some m → (ccpr u).toNat = m →
    s.t1.breakKind = { roll := false, cmp1 := decide (i = .ccp1), cmp2 := decide (i = .ccp2) } →
    s.t1.anchor + (m * t1Div s.t1.con : Nat) = (c : Int) → mode ∈ [1, 8, 9, 10] →
    ∃ t, exec .step s = .next t ∧ t.now = s.now + 1 ∧
      (t.ccp i).out[0] = (match mode with
        | 1 => (if u.out[0] = .H then .L else .H) | 8 => .H | 9 => .L | _ => u.out[0]) ∧
      (∀ k : Fin 4, (t.ccp i).pin[k] = outputLevel i (t.ccp i) k) ∧ (t.ccp i).flag = true ∧
      (∃ l, t.out = s.out ++ l ++ [.irq (.ccp i) c] ∧ ∀ r ∈ l, ∃ h b v, r = .recv h .pwmEdge b v c) ∧
      (readReg .tmr1h t).toNat * 256 + (readReg .tmr1l t).toNat = (if bit u.tsel 7 then 0 else m) ∧
      t.t1.run = true ∧ t.t1.flag = s.t1.flag ∧ (∀ j, j ≠ i → t.ccp j = s.ccp j) ∧ (∀ y, t.tm y = s.tm y) ∧ t.faults = s.faults ∧
      sameEventsBut [.t1Brk] rest t.queue ∧ (∃ n ins, t.pending .t1Brk = some (n, ins) ∧ c < n)

/-- The STEP that starts a PWM period (R241, R295, R297): the free-running timer of unit `i`, in single-output PWM and
not shut down, ends a period; a duty match of the same cycle is part of the event, handled first (R480), and without its
bit in the mask no duty match is armed up to the period's end (R239). The duty is latched from CCPRxL and DCB or, with
FMT = 1, from CCPRxH and CCPRxL; the modulated level is low for a duty of 0 and high otherwise; the duty match is armed,
`ceil(DC · P / 4)` cycles on, unless the duty is 0 or at least `4 (PR + 1)`. Where it falls on the cycle of the period's
end the two are one breakpoint: assumption log 36. -/
def Obligations.PwmPeriodStarts : Prop :=
  ∀ (i : CcpId) (rest : List Event) (s : State),
    let u := s.ccp i
    let x := s.pwmTimer i
    let c := s.now.toNat + 1
    let dc : Nat := if bit u.tsel 6 then u.rh.toNat * 4 + u.rl.toNat / 64 else u.rl.toNat * 4 + u.con.toNat / 16 % 4
    let full : Nat := 4 * ((s.tm x).pr.toNat + 1)
    let p := t2Div (s.tm x).con
    s.dueNext (.tBrk x) rest → s.ccpAlone i → s.hostsOnly .t2Match → (s.tm x).run = true → t2RunCond s x = true →
    policyEnd (t2Policy s.cfg (s.tm x).hlt) = .free → (s.tm x).ratio = ⟨1, 1⟩ → (s.tm x).pwm = [i] →
    ((s.tm x).breakMask = periodBit ∧ (u.dutyArmed = true → full < u.dcLatched) ∨
      (s.tm x).breakMask = dutyBit i ||| periodBit) →
    (s.tm x).anchor + (((s.tm x).pr.toNat + 1) * p : Nat) = (c : Int) →
    12 ≤ field u.con 0 4 → (i = .ccp1 → field u.con 6 2 = 0) → u.shutdown = false →
    ∃ t, exec .step s = .next t ∧ readReg (.tmr x) t = 0 ∧ (t.ccp i).dcLatched = dc ∧
      (t.ccp i).out[0] = (if dc = 0 then .L else .H) ∧ (t.ccp i).mod = (if dc = 0 then .L else .H) ∧
      (∀ k : Fin 4, (t.ccp i).pin[k] = outputLevel i (t.ccp i) k) ∧
      (t.ccp i).dutyArmed = decide (0 < dc ∧ dc < full) ∧
      (∃ ins, t.pending (.tBrk x) =
        some (c + (if 0 < dc ∧ dc < full then (dc * p + 3) / 4 else ((s.tm x).pr.toNat + 1) * p), ins)) ∧
      (t.tm x).breakMask = (if 0 < dc ∧ dc < full then
        (if (dc * p + 3) / 4 = ((s.tm x).pr.toNat + 1) * p then dutyBit i ||| periodBit else dutyBit i)
        else periodBit) ∧
      (∀ j, j ≠ i → t.ccp j = s.ccp j) ∧ t.t1 = s.t1 ∧ t.faults = s.faults ∧ sameEventsBut [.tBrk x] rest t.queue

/-- The bookkeeping between the units and their timers (R35, R39, R280): every command, from every state in which the
timers list exactly the units in a compare or PWM mode, leaves such a state. -/
def Obligations.StepKeepsListed : Prop :=
  ∀ (s t : State), s.Listed → step s = .next t → t.Listed

/-- The run states (R210, R218, R231, R455): every command, from every state in which each timer runs exactly while its
run condition holds, leaves such a state, whatever it switches, gates, freezes or propagates. -/
def Obligations.StepKeepsRunning : Prop :=
  ∀ (s t : State), s.Running → step s = .next t → t.Running

/-! ### Oscillator -/

/-- PUT OSCCON and PUT OSCTUNE (R341, R342, R343, R347), only hosts hearing FREQ. With SCS, IRCF and SPLLEN standing
OSCCON is only stored. A switch recomputes `f_int`; to the internal RC it restarts the settle delay and publishes
`f_int`; to an external source not yet selected it starts the warm-up, on the internal RC with two-speed start-up, else
on the source's own frequency. A new trim reaches the block's frequency only in the internal state. An unchanged
frequency is silent. -/
def Obligations.OscillatorSwitches : Prop :=
  ∀ (v : Byte) (s : State), s.oscAlone →
    let con := v &&& 0xFB
    let tune := v &&& 0x3F
    let fint : Byte → Byte → Rat := fun c n =>
      (s.cfg.ircfTable.getD (c.toNat / 8 % 16) (0, .lf)).1 * (if bit c 7 then 4 else 1) *
        s.cfg.tuneFactor.getD (n.toNat % 64) 1
    let src : Option ExtSrc := if v.toNat % 4 = 1 then some .secondary
      else if v.toNat % 4 = 0 ∧ s.cfg.foscCfg = .external then some .primary else none
    let same : Prop := v.toNat % 4 = s.osc.con.toNat % 4 ∧ v.toNat / 8 % 16 = s.osc.con.toNat / 8 % 16 ∧
      bit v 7 = bit s.osc.con 7
    let now := s.now.toNat
    let told : Rat → List OutRec := fun f => if f = s.osc.fEff then []
      else .freq f.floor.toNat now :: s.heard .freq 0 f.floor.toNat now
    let f := fint con s.osc.tune
    let o : Osc := { s.osc with con := con, fInt := f }
    (same → exec (.putOsccon v) s = .next { s with osc := { s.osc with con := con } }) ∧
    (¬ same → src = none → ∃ q,
      exec (.putOsccon v) s = .next { s with
        osc := { o with state := .intRc, target := none, settled := false, fEff := f }
        queue := q, seq := s.seq + 1, out := s.out ++ told f } ∧
      ∀ e, e ∈ q ↔ (e ∈ s.queue ∧ e.trig ≠ .oscOst ∧ e.trig ≠ .oscSettle) ∨
        e = ⟨now + s.cfg.settleCycles, s.seq, .oscSettle⟩) ∧
    (∀ x, ¬ same → src = some x → s.osc.state ≠ .intRc → s.osc.target = some x →
      exec (.putOsccon v) s = .next { s with osc := o }) ∧
    (∀ x, ¬ same → src = some x → (s.osc.state = .intRc ∨ s.osc.target ≠ some x) →
      let g : Rat := if s.cfg.twoSpeed then f else match x with | .primary => s.cfg.foscExtHz | .secondary => s.cfg.fsecHz
      ∃ t, exec (.putOsccon v) s = .next t ∧
        t = { s with osc := t.osc, queue := t.queue, seq := t.seq, out := s.out ++ told g } ∧
        t.osc = { o with
          state := .ost, target := some x, fEff := g
          settled := s.osc.settled && !(s.cfg.twoSpeed && decide (s.osc.state ≠ .intRc)) } ∧
        t.pending .oscOst = some (now + s.cfg.ostCycles, s.seq) ∧
        t.pending .oscSettle = (if s.cfg.twoSpeed = false then none else if s.osc.state = .intRc then s.pending .oscSettle
          else some (now + s.cfg.settleCycles, s.seq + 1)) ∧
        sameEventsBut [.oscOst, .oscSettle] s.queue t.queue) ∧
    (let h := fint s.osc.con tune
     let p : Osc := { s.osc with tune := tune }
     exec (.putOsctune v) s = .next
      (if v.toNat % 64 = s.osc.tune.toNat % 64 then { s with osc := p }
       else if s.osc.state = .intRc then { s with osc := { p with fInt := h, fEff := h }, out := s.out ++ told h }
       else { s with osc := { p with fInt := h } }))

/-- The STEP that ends a warm-up (R346): the oscillator is stable on its target and the target's frequency is published,
or nothing happens where no warm-up is under way; and the STEP that ends a settle delay (R345): the internal RC is
settled if it is the clock, and nothing else changes. -/
def Obligations.OscillatorEvents : Prop :=
  ∀ (rest : List Event) (s : State),
    let c := s.now.toNat + 1
    (∀ x, s.dueNext .oscOst rest → s.oscAlone → s.osc.state = .ost → s.osc.target = some x →
      let f : Rat := match x with | .primary => s.cfg.foscExtHz | .secondary => s.cfg.fsecHz
      exec .step s = .next { s with
        now := s.now + 1, queue := rest, osc := { s.osc with state := .extStable, fEff := f }
        out := s.out ++ (if f = s.osc.fEff then [] else .freq f.floor.toNat c :: s.heard .freq 0 f.floor.toNat c) }) ∧
    (s.dueNext .oscOst rest → s.osc.state ≠ .ost ∨ s.osc.target = none →
      exec .step s = .next { s with now := s.now + 1, queue := rest }) ∧
    (s.dueNext .oscSettle rest →
      exec .step s = .next { s with
        now := s.now + 1, queue := rest
        osc := { s.osc with settled := s.osc.settled || decide (s.osc.state = .intRc) ||
          (decide (s.osc.state = .ost) && s.cfg.twoSpeed) } })

/-! ### NCO -/

/-- PUT of the NCO's registers (R400 to R402, R404), its output heard by hosts alone. The byte replaces its own byte and
the accumulator otherwise reads on; EN going to 0 clears the output and any pulse; the next overflow is due when the
accumulator reaches `2^20`, `ceil((2^20 - acc) / inc)` input clocks on, and none is due while the NCO does not run from
an internal clock or the increment is 0. The output is published where it differs from the level last presented, the
model's field of assumption log 9. -/
def Obligations.NcoWrites : Prop :=
  ∀ (v : Byte) (s : State), s.ncoAlone →
    let acc : State → Nat := fun t =>
      (readReg .ncoaccu t).toNat * 65536 + (readReg .ncoacch t).toNat * 256 + (readReg .ncoaccl t).toNat
    let wrote : Reg → Nat → Half → Byte → Byte → Prop := fun r a inc con clk =>
      let en := bit con 7
      let stop := bit s.nco.con 7 && !en
      let k : Nat := if clk.toNat % 4 = 1 then 4 else 1
      let lvl : Bool := en && (!stop && s.nco.out) != (en && bit con 4)
      ∃ t, exec (putRow v r) s = .next t ∧ acc t = a ∧ t.nco.inc = inc ∧ t.nco.con = con ∧ t.nco.clk = clk ∧
        t.nco.flag = s.nco.flag ∧ t.nco.out = (!stop && s.nco.out) ∧
        t.nco.pulseLeft = (if stop then 0 else s.nco.pulseLeft) ∧ t.nco.lvl = lvl ∧
        t = { s with nco := t.nco, queue := t.queue, seq := t.seq
                     out := s.out ++ if lvl = s.nco.lvl then [] else
                       s.heard .ncoOut 0 (if lvl then 1 else 0) s.now.toNat } ∧
        t.pending .ncoPulse = (if stop then none else s.pending .ncoPulse) ∧
        t.pending .ncoOvf =
          (if en ∧ clk.toNat % 4 < 2 ∧ s.sleeping = false ∧ inc ≠ 0 then
            some (s.now.toNat + ((2 ^ 20 - a + inc.toNat - 1) / inc.toNat + k - 1) / k, s.seq) else none) ∧
        sameEventsBut [.ncoOvf, .ncoPulse] s.queue t.queue
    let a := acc s
    let n := s.nco
    wrote .ncoaccl (a - a % 256 + v.toNat) n.inc n.con n.clk ∧
    wrote .ncoacch (a / 65536 * 65536 + v.toNat * 256 + a % 256) n.inc n.con n.clk ∧
    wrote .ncoaccu (v.toNat % 16 * 65536 + a % 65536) n.inc n.con n.clk ∧
    wrote .ncoincl a (pairOf (highByte n.inc) v) n.con n.clk ∧
    wrote .ncoinch a (pairOf v (lowByte n.inc)) n.con n.clk ∧
    wrote .ncocon a n.inc (v &&& 0x91) n.clk ∧
    wrote .ncoclk a n.inc n.con (v &&& 0xE3)

/-- The STEP that reaches an overflow of the NCO (R403, R404), its output heard by hosts alone: the accumulator is taken
modulo `2^20`, the flag raised with one `Irq`; the output toggles, or with PFM goes high for `2^PWS` input clocks; the
next overflow follows from the new accumulator. The output is published where it differs from the level last presented,
the model's field of assumption log 9. -/
def Obligations.NcoOverflows : Prop :=
  ∀ (rest : List Event) (s : State), s.dueNext .ncoOvf rest → s.ncoAlone → ncoRun s = true →
    let n := s.nco
    let c := s.now.toNat + 1
    let k : Nat := if n.clk.toNat % 4 = 1 then 4 else 1
    let acc : BitVec 20 := BitVec.ofInt 20 ((n.acc.toNat : Int) + (n.inc.toNat : Int) * (((k * c : Nat) : Int) - n.anchor))
    let out : Bool := bit n.con 0 || !n.out
    let lvl : Bool := out != bit n.con 4
    ∃ t, exec .step s = .next t ∧
      t = { s with
        now := s.now + 1, queue := t.queue, seq := t.seq
        nco := { n with acc := acc, anchor := ((k * c : Nat) : Int), flag := true, out := out, lvl := lvl }
        out := s.out ++ [.irq .nco c] ++
          (if lvl = n.lvl then [] else s.heard .ncoOut 0 (if lvl then 1 else 0) c) } ∧
      t.pending .ncoPulse = (if bit n.con 0 then some (c + (2 ^ (n.clk.toNat / 32) + k - 1) / k, s.seq)
        else s.pending .ncoPulse) ∧
      (n.inc = 0 → t.pending .ncoOvf = none) ∧
      (n.inc ≠ 0 → ∃ ins, t.pending .ncoOvf =
        some (c + ((2 ^ 20 - acc.toNat + n.inc.toNat - 1) / n.inc.toNat + k - 1) / k, ins)) ∧
      sameEventsBut [.ncoOvf, .ncoPulse] rest t.queue

/-! ### Logic cells -/

/-- The registers of a logic cell (R370, R371, R373): after a PUT of any of them, in every state, the cell holds exactly
the sinks and attachments of its inputs in use (EN = 1 and an enable bit of the input set in some gate), none when
disabled, and no one else's moves; UNMODELLED is raised exactly when a `Refused` source comes into use. -/
def Obligations.CellsSubscribe : Prop :=
  ∀ (n : ClcId) (r : Reg) (v : Byte) (s : State),
    (r = .clccon n ∨ r = .clcpol n ∨ (∃ y, r = .clcsel n y) ∨ (∃ k, r = .clcgls n k)) →
    let used : Clc → Fin 4 → Option SigDesc := fun c y =>
      if bit c.con 7 = true ∧ ∃ k : Fin 4, bit c.gls[k] (2 * y) = true ∨ bit c.gls[k] (2 * y + 1) = true then
        some ((s.cfg.clcInputTable.getD n.idx []).getD (c.sel[y].toNat % 64) .low)
      else none
    ∃ t, exec (putRow v r) s = .next t ∧
      (∀ (p : PinIx) (y : Fin 4), .clcIn n y ∈ t.pins[p].sinks ↔ used (t.clc n) y = some (.pin p)) ∧
      (∀ (k : ChanKind) (y : Fin 4), .clcIn n y ∈ t.subsOf k ↔ ∃ sub, used (t.clc n) y = some (.bus k sub)) ∧
      (∀ (p : PinIx) (j : SinkId), (∀ y, j ≠ .clcIn n y) → (j ∈ t.pins[p].sinks ↔ j ∈ s.pins[p].sinks)) ∧
      (∀ (k : ChanKind) (j : RecvId), (∀ y, j ≠ .clcIn n y) → (j ∈ t.subsOf k ↔ j ∈ s.subsOf k)) ∧
      (t.faults.unmodelled = true ↔ s.faults.unmodelled = true ∨
        ∃ y, used (t.clc n) y = some .refused ∧ used (s.clc n) y ≠ some .refused)

/-- The evaluation after a PUT of a cell's register (R370, R374, R375, R376), its output heard by hosts alone (no input
of the cell can select a cell's output): a newly held input takes its source's level; the gates are ORs of the enabled
inputs, inverted as GkPOL says; the eight functions are those of R375; the output is inverted by POL, low when disabled;
and a change raises the flag as INTP and INTN say and is published. That an input whose source stands keeps its level,
re-selected or not, is the model's reading: assumption log 10. -/
def Obligations.CellsEvaluate : Prop :=
  ∀ (n : ClcId) (r : Reg) (v : Byte) (s : State),
    (r = .clccon n ∨ r = .clcpol n ∨ (∃ y, r = .clcsel n y) ∨ (∃ k, r = .clcgls n k)) → s.clcAlone n →
    (∀ d ∈ s.cfg.clcInputTable.getD n.idx [], ∀ sub, d ≠ .bus .clcOut sub) →
    ∃ t, exec (putRow v r) s = .next t ∧
      let b := s.clc n
      let c := t.clc n
      let en := bit c.con 7
      let off := bit b.con 7 && !en
      let g : Fin 4 → Bool := fun k =>
        (decide (∃ y : Fin 4, (bit c.gls[k] (2 * y + 1) = true ∧ c.inp[y] = .H) ∨
          (bit c.gls[k] (2 * y) = true ∧ c.inp[y] ≠ .H))) != bit c.pol k
      let q0 := !off && b.q
      let up := g 0 && !(!off && b.g1Prev)
      let set := g 3
      let rst := g 2
      let q : Bool := match c.con.toNat % 8 with
        | 3 => if g 0 || g 1 then true else if g 2 || g 3 then false else q0
        | 4 => if rst then false else if set then true else if up then g 1 else q0
        | 5 => if rst then false else if up then g 1 && g 3 else q0
        | 6 => if rst then false else if up then (if g 1 then (if g 3 then !q0 else true) else if g 3 then false else q0)
            else q0
        | 7 => if rst then false else if set then true else if g 0 then g 1 else q0
        | _ => q0
      let f : Bool := match c.con.toNat % 8 with
        | 0 => (g 0 && g 1) || (g 2 && g 3)
        | 1 => (g 0 || g 1) != (g 2 || g 3)
        | 2 => g 0 && g 1 && g 2 && g 3
        | _ => q
      let irq : Bool := c.out != b.out && (if c.out then bit c.con 4 else bit c.con 3)
      c.out = (en && (f != bit c.pol 7)) ∧ c.q = (if en then q else q0) ∧
      c.g1Prev = (if en then g 0 else !off && b.g1Prev) ∧
      (∀ y : Fin 4, c.inp[y] = match clcWant s.cfg n c y with
        | none => b.inp[y]
        | some d => if clcWant s.cfg n b y = some d then b.inp[y] else
          match d with | .pin p => (if s.pins[p].lvl = .H then .H else .L) | _ => .L) ∧
      c.flag = (b.flag || irq) ∧
      t.out = s.out ++ (if irq then [.irq (.clc n) s.now.toNat] else []) ++
        (if c.out = b.out then [] else s.heard .clcOut (n.idx + 1) (if c.out then 1 else 0) s.now.toNat) ∧
      (∀ m, m ≠ n → t.clc m = s.clc m) ∧ t.nco = s.nco ∧ t.queue = s.queue ∧ t.t0 = s.t0 ∧ t.t1 = s.t1 ∧
      t.ccp1 = s.ccp1 ∧ t.ccp2 = s.ccp2

/-! ### Sleep and reset -/

/-- SLEEP (R455). Asleep already it does nothing. Else every internally clocked counter stops with its count as it
reads, whatever time passes, its event is gone, and the rest goes on: no other event, no pin, no register, flag,
prescaler or list of a counter, no other unit's state, no record. The NCO's accumulator is frozen brought up to date,
and a pulse under way keeps its event: assumption log 23. -/
def Obligations.SleepFreezes : Prop :=
  ∀ s : State,
    (s.sleeping = true → exec .sleep s = .next s) ∧
    (s.sleeping = false → s.Running → ∃ t, exec .sleep s = .next t ∧ t.sleeping = true ∧
      t.t0.run = false ∧ t.t1.run = false ∧ (∀ x, (t.tm x).run = false) ∧
      (∀ r ∈ [Reg.tmr0, .tmr1l, .tmr1h, .tmr .t2, .tmr .t4, .tmr .t6, .ncoaccl, .ncoacch, .ncoaccu], ∀ c,
        readReg r { t with now := c } = readReg r s) ∧
      (∀ e, e ∈ t.queue ↔ e ∈ s.queue ∧ ¬ ((e.trig = .t0Ovf ∧ s.t0.run = true) ∨ (e.trig = .t1Brk ∧ s.t1.run = true) ∨
        (∃ x, e.trig = .tBrk x ∧ (s.tm x).run = true) ∨ (e.trig = .ncoOvf ∧ ncoRun s = true))) ∧
      s.countersStand t ∧
      t = { s with
        sleeping := true, queue := t.queue, seq := t.seq, t0 := t.t0, t1 := t.t1, t2 := t.t2, t4 := t.t4, t6 := t.t6
        nco := t.nco })

/-- WAKE (R340, R351, R456), only hosts hearing FREQ. Awake already it does nothing. Else each counter goes on from where
it stood, exactly those whose run condition holds now, anchored anew at its held count, with its event where that count
puts it: Timer0's overflow `(256 - count) · P0` cycles on (R211), Timer1's rollover or compare match (R219), a Timer2-family
instance's nearest match (R239), the NCO's overflow (R402). The oscillator is derived anew: on the internal RC, and in a
two-speed warm-up, the settle delay starts again, on an external source the warm-up, and a new frequency is told once. No
other event moves, a counter that does not start keeps all it has, and everything else stands. Which counters start is
assumption log 15; an instance on the internal RC has the ratio of the new frequency: log 14; a match that is one event
with a duty: log 36. -/
def Obligations.WakeResumes : Prop :=
  ∀ s : State,
    (s.sleeping = false → exec .wake s = .next s) ∧
    (s.sleeping = true → s.Running → s.hostsOnly .freq → s.busDepth < s.cfg.busDepthMax →
      let a : State := { s with sleeping := false }
      let now := s.now.toNat
      let src := oscSrc s.cfg s.osc.con
      let f := oscIntFreq s.cfg s.osc.con s.osc.tune
      let g : Rat := match src with
        | none => f
        | some x => if s.cfg.twoSpeed then f else match x with | .primary => s.cfg.foscExtHz | .secondary => s.cfg.fsecHz
      let v1 := s.t1.held.toNat
      let k1 : Nat := if t1Cs s.t1.con = 1 then 4 else 1
      let d1 := t1NextPosition v1 s.t1.cmp
      let kn : Nat := if ncoCks s.nco = 1 then 4 else 1
      let clocks := (2 ^ 20 - s.nco.acc.toNat + s.nco.inc.toNat - 1) / s.nco.inc.toNat
      ∃ t, exec .wake s = .next t ∧ t.Running ∧
      (∀ r ∈ [Reg.tmr0, .tmr1l, .tmr1h, .tmr .t2, .tmr .t4, .tmr .t6, .ncoaccl, .ncoacch, .ncoaccu],
        readReg r t = readReg r s) ∧
      sameEventsBut (t.runningEvents ++ [.oscOst, .oscSettle]) s.queue t.queue ∧
      t = { s with
        sleeping := false, queue := t.queue, seq := t.seq, t0 := t.t0, t1 := t.t1, t2 := t.t2, t4 := t.t4, t6 := t.t6
        nco := t.nco
        osc := { s.osc with
          state := if src = none then .intRc else .ost, target := src, settled := false, fInt := f, fEff := g }
        out := s.out ++ (if g = s.osc.fEff then [] else .freq g.floor.toNat now :: s.heard .freq 0 g.floor.toNat now) } ∧
      (if t0RunCond a = true then
        t.t0 = { s.t0 with run := true, anchor := (now : Int) - (s.t0.held.toNat * t0Div s.t0.con : Nat) } ∧
        ∃ ins, t.pending .t0Ovf = some (now + (256 - s.t0.held.toNat) * t0Div s.t0.con, ins)
      else t.t0 = s.t0) ∧
      (if t1RunCond a = true then
        t.t1 = { s.t1 with
          run := true, anchor := ((k1 * now : Nat) : Int) - (v1 * t1Div s.t1.con : Nat), breakValue := some d1
          breakKind := {
            roll := d1 == 65536
            cmp1 := s.t1.cmp.any (fun e => e.1 == .ccp1 && t1Position v1 e.2 == d1)
            cmp2 := s.t1.cmp.any (fun e => e.1 == .ccp2 && t1Position v1 e.2 == d1) } } ∧
        ∃ ins, t.pending .t1Brk = some (now + ((d1 - v1) * t1Div s.t1.con + k1 - 1) / k1, ins)
      else t.t1 = s.t1) ∧
      (∀ x, if t2RunCond a x = true then
          let k := t2RatioNow t x
          let A : Int := tin k now - ((s.tm x).held.toNat * t2Div (s.tm x).con : Nat)
          let cands := s.t2Positions x (s.tm x).held.toNat
          let q := leastKey cands
          t.tm x = { s.tm x with
            run := true, ratio := k, anchor := A, breakValue := some q, breakMask := t2MaskAt t x q cands } ∧
          ∃ ins, t.pending (.tBrk x) = some (max now (cycleOf k ((A : Rat) + q)).toNat, ins)
        else t.tm x = s.tm x) ∧
      (if ncoRun a = true then
        t.nco = { s.nco with anchor := ((kn * now : Nat) : Int) } ∧
        (s.nco.inc = 0 → t.pending .ncoOvf = none) ∧
        (s.nco.inc ≠ 0 → ∃ ins, t.pending .ncoOvf = some (now + (clocks + kn - 1) / kn, ins))
      else t.nco = s.nco) ∧
      (if src = none then t.pending .oscOst = none else ∃ ins, t.pending .oscOst = some (now + s.cfg.ostCycles, ins)) ∧
      (if src = none ∨ s.cfg.twoSpeed = true then ∃ ins, t.pending .oscSettle = some (now + s.cfg.settleCycles, ins)
      else t.pending .oscSettle = none))

/-- RESET (R470, R471, R474), in every state. Everything is as right after construction but the wiring, the log, the
host's voltages and the commands not yet taken: the queue holds the oscillator's own events, the reset frequency is
recorded and told to the host's receivers, and each pin shows low under a source that a permanent control lets through,
else nothing, a change of it recorded in ascending order. (An IRCF_FREQ_TABLE entry of 0, which R444 excludes, is
silent.) That the commands not yet taken are kept is the model's choice, assumption log 24, as the NCO's anchor 0 is
(log 29). -/
def Obligations.ResetClears : Prop :=
  ∀ s : State, 0 < s.cfg.busDepthMax →
    let ext : Bool := decide (s.cfg.foscCfg = .external)
    let two := s.cfg.twoSpeed
    let fInt := (s.cfg.ircfTable.getD 7 (0, .lf)).1 * s.cfg.tuneFactor.getD 0 1
    let f : Rat := if ext && !two then s.cfg.foscExtHz else fInt
    let settle : Nat → Event := fun n => ⟨s.cfg.settleCycles, n, .oscSettle⟩
    let ost : Event := ⟨s.cfg.ostCycles, 0, .oscOst⟩
    let shown : Pin → Level := fun m =>
      match m.src, m.ctl with
      | some (.clc _), some .alwaysOut => .L
      | some .nco, some .alwaysOut => .L
      | _, _ => .Z
    exec .reset s = .next { State.blank s.cfg with
      cmds := s.cmds, vin := s.vin, vrefhi := s.vrefhi, vreflo := s.vreflo
      seq := if ext && two then 2 else 1
      queue := if ext then (if two then (if s.cfg.settleCycles < s.cfg.ostCycles then [settle 1, ost] else [ost, settle 1])
        else [ost]) else [settle 0]
      pins := Vector.ofFn (fun p : PinIx => { s.pins[p] with
        sinks := s.pins[p].sinks.filter SinkId.hostWired, ext := .Z
        lvl := if p.val < s.cfg.nPin then shown s.pins[p] else s.pins[p].lvl })
      subs := s.subs.map (fun l => l.filter RecvId.isHost)
      osc := { Osc.atReset with
        state := if ext then .ost else .intRc, target := if ext then some .primary else none, fInt := fInt, fEff := f }
      out := s.out ++
        (if f = 0 then [] else .freq f.floor.toNat 0 ::
          ((s.subsOf .freq).filter RecvId.isHost).map (fun r => .recv r .freq 0 f.floor.toNat 0)) ++
        ((List.finRange 32).filter (fun p => decide (p.val < s.cfg.nPin ∧ shown s.pins[p] ≠ s.pins[p].lvl))).map (fun p =>
          .pin p (shown s.pins[p]) 0) }

/-! ### Pins and channels that the block does not have -/

/-- A pin at or past N_PIN, and an ADC channel at or past N_ADC_CH, is no pin and no channel of the block (R7, R105): a
command that names one raises ILLEGAL_CMD and changes nothing else. -/
def Obligations.AbsentPinsAndChannels : Prop :=
  ∀ (s : State),
    let illegal : Instr → Prop := fun i => exec i s = .next { s with faults := s.faults.add .illegalCmd }
    (∀ p : PinIx, s.cfg.nPin ≤ p.val →
      (∀ src, illegal (.setsrc p src)) ∧ (∀ ctl, illegal (.setctl p ctl)) ∧ (∀ k, illegal (.addsink p k)) ∧
      (∀ k, illegal (.rmsink p k)) ∧ illegal (.updpin p) ∧ (∀ l, illegal (.drive p l)) ∧ illegal (.pinrd p)) ∧
    ∀ (ch : Fin 32) (uv : Long), s.cfg.nAdcCh ≤ ch.val → illegal (.setv (.chan ch) uv)
end

