-- ==== Sys2Proof/Laws/Advance.lean ====
section
/-!
SUPPORT. Laws/Advance.lean: what `Advance` answers (40_scheduler.md R136, R142): the state in which its firing loop ends,
and the hang exactly where the loop never ends.
-/

namespace Sys2Proof.Machine

open Sys2Proof

theorem advanceLoop_idle {s : State} (h : nextDue s = none) (n : Nat) : advanceLoop n s = some s := by
  cases n <;> simp [advanceLoop, h]

theorem advanceLoop_fire {s : State} {e : Event} {rest : List Event} (h : nextDue s = some (e, rest)) (n : Nat) :
    advanceLoop (n + 1) s = advanceLoop n (fireEvent e rest s) := by simp [advanceLoop, h]

/-- Where the bounded loop ends, the loop ends there. -/
theorem advanceRun_of_loop {n : Nat} {s t : State} (h : advanceLoop n s = some t) : advanceRun s = some t := by
  induction n generalizing s with
  | zero =>
    rw [advanceRun]
    cases hd : nextDue s <;> simp_all [advanceLoop]
  | succ n ih =>
    rw [advanceRun]
    cases hd : nextDue s with
    | none => simpa [advanceLoop, hd] using h
    | some er => exact ih (by simpa [advanceLoop, hd] using h)

/-- Where the loop ends, it ends within some number of events. -/
theorem loop_of_advanceRun (s t : State) (h : advanceRun s = some t) : ∃ n, advanceLoop n s = some t := by
  refine advanceRun.partial_correctness (fun s t => ∃ n, advanceLoop n s = some t) (fun f ih s r hr => ?_) s t h
  cases hd : nextDue s with
  | none => exact ⟨0, by simpa [advanceLoop, hd] using hr⟩
  | some er =>
    obtain ⟨n, hn⟩ := ih _ _ (by simpa [hd] using hr)
    exact ⟨n + 1, by rw [advanceLoop_fire hd, hn]⟩

/-- ADVANCE answers exactly the state in which the firing loop ends (R136). -/
theorem advance_next_iff {s t : State} : advance s = .next t ↔ ∃ n, advanceLoop n s = some t := by
  unfold advance
  refine ⟨fun h => ?_, fun ⟨n, h⟩ => ?_⟩
  · split at h
    · rename_i u hu
      cases h; exact ⟨_, hu⟩
    · split at h
      · rename_i u hu
        cases h; exact loop_of_advanceRun _ _ hu
      · cases h
  · have hr := advanceRun_of_loop h
    split
    · rename_i u hu
      rw [Option.some.inj ((advanceRun_of_loop hu).symm.trans hr)]
    · rw [hr]

/-- ADVANCE stops exactly where the firing loop never ends (R142). -/
theorem advance_hang_iff {s : State} : advance s = .fault .advanceHang ↔ ∀ n, advanceLoop n s = none := by
  refine ⟨fun h n => ?_, fun h => ?_⟩
  · cases hn : advanceLoop n s with
    | none => rfl
    | some t => rw [advance_next_iff.2 ⟨n, hn⟩] at h; cases h
  · unfold advance
    rw [h]
    cases hr : advanceRun s with
    | none => rfl
    | some t => obtain ⟨n, hn⟩ := loop_of_advanceRun s t hr; rw [h n] at hn; cases hn

/-- Everything ADVANCE can answer. -/
theorem advance_cases (s : State) :
    (∃ n t, advanceLoop n s = some t ∧ advance s = .next t) ∨
    ((∀ n, advanceLoop n s = none) ∧ advance s = .fault .advanceHang) := by
  by_cases h : ∀ n, advanceLoop n s = none
  · exact .inr ⟨h, advance_hang_iff.2 h⟩
  · obtain ⟨n, hn⟩ := not_forall.1 h
    obtain ⟨t, ht⟩ := Option.ne_none_iff_exists'.1 hn
    exact .inl ⟨n, t, ht, advance_next_iff.2 ⟨n, ht⟩⟩

end Sys2Proof.Machine
end

