-- ==== Sys2Proof/Laws/Encoding.lean ====
section
/-!
SUPPORT. Laws/Encoding.lean: the fields of a header word written by the encoder, and the codes of the identifiers read
back (30_encoding.md R102, R111 to R115).
-/

namespace Sys2Proof

@[simp] theorem opField_mkHdr (op a : Byte) (b : Half) : opField (mkHdr op a b) = op.toNat := by
  have h : (mkHdr op a b).extractLsb' 24 8 = op := by
    unfold mkHdr
    ext i hi
    simp only [BitVec.getElem_extractLsb', BitVec.getLsbD_append]
    have h1 : ¬ 24 + i < 16 := by omega
    have h2 : ¬ 24 + i - 16 < 8 := by omega
    have h3 : 24 + i - 16 - 8 = i := by omega
    simp [h1, h2, h3, BitVec.getLsbD_eq_getElem hi]
  unfold opField
  rw [h]

@[simp] theorem aField_mkHdr (op a : Byte) (b : Half) : aField (mkHdr op a b) = a := by
  unfold aField mkHdr
  ext i hi
  simp only [BitVec.getElem_extractLsb', BitVec.getLsbD_append]
  have h1 : ¬ 16 + i < 16 := by omega
  have h3 : 16 + i - 16 = i := by omega
  simp [h1, h3, hi]

@[simp] theorem bField_mkHdr (op a : Byte) (b : Half) : bField (mkHdr op a b) = b := by
  unfold bField mkHdr
  ext i hi
  simp only [BitVec.getElem_extractLsb', BitVec.getLsbD_append]
  simp [hi]

/-- The argument of a format HA command comes back whole (R101). -/
@[simp] theorem argOf_argWords (v : Long) : argOf (v.extractLsb' 0 32) (v.extractLsb' 32 32) = v := by
  unfold argOf
  ext i hi
  simp only [BitVec.getElem_append, BitVec.getElem_extractLsb']
  split
  · simp [BitVec.getLsbD_eq_getElem hi]
  · have h : 32 + (i - 32) = i := by omega
    rw [h]; simp [BitVec.getLsbD_eq_getElem hi]

/-! ### Codes read back -/

theorem trigOfCode_code (t : TrigId) : trigOfCode (byteOf t.code).toNat = some t := by
  cases t with
  | ext j => revert j; decide
  | tBrk x => cases x <;> rfl
  | ccpDb i => cases i <;> rfl
  | ccpPulse i => cases i <;> rfl
  | _ => rfl

theorem chanOfCode_code (k : ChanKind) : chanOfCode (byteOf k.code).toNat = some k := by cases k <;> rfl

theorem recvOfCode_code (r : RecvId) : recvOfCode (halfOf r.code).toNat = some r := by
  cases r with
  | t1Gate => rfl
  | tRst x => cases x <;> rfl
  | ccpAs i => cases i <;> rfl
  | clcIn n y => revert y; cases n <;> decide
  | host j => revert j; decide

theorem srcOperand_code (k : Option SrcId) : srcOperand (optCode (k.map SrcId.code)) = .ok k := by
  cases k with
  | none => rfl
  | some k => cases k with
    | ccp1 j => revert j; decide
    | ccp2A => rfl
    | clc n => cases n <;> rfl
    | nco => rfl

theorem ctlOperand_code (k : Option CtlId) : ctlOperand (optCode (k.map CtlId.code)) = .ok k := by
  cases k with
  | none => rfl
  | some k => cases k with
    | alwaysOut => rfl
    | alwaysIn => rfl
    | ccp1 j => revert j; decide
    | ccp2A => rfl
    | clc n => cases n <;> rfl
    | nco => rfl

theorem sinkOfCode_code (k : SinkId) : sinkOfCode (halfOf k.code).toNat = some k := by
  cases k with
  | ccpIn i => cases i <;> rfl
  | clcIn n y => revert y; cases n <;> decide
  | ccpShut i => cases i <;> rfl
  | tRst x => cases x <;> rfl
  | _ => rfl

theorem levelOf_code (l : Level) : levelOf (halfOf l.code) = .ok l := by cases l <;> rfl

theorem adcInputOf_code (c : AdcInput) : adcInputOf (byteOf c.code) = .ok c := by
  cases c with
  | chan ch => revert ch; decide
  | vrefHi => rfl
  | vrefLo => rfl

theorem pinOf_byteOf (p : PinIx) : pinOf (byteOf p) = .ok p := by revert p; decide

/-- Every cell has its own address, and the map finds it there (R110, R111). -/
theorem regOfAddr_addr (r : Reg) : regOfAddr r.addr = some r := by
  cases r with
  | cycle k => revert k; decide
  | clcsel n y => revert y; cases n <;> decide
  | clcgls n k => revert k; cases n <;> decide
  | tmr x => cases x <;> rfl
  | pr x => cases x <;> rfl
  | tcon x => cases x <;> rfl
  | thlt x => cases x <;> rfl
  | tclkcon x => cases x <;> rfl
  | trst x => cases x <;> rfl
  | tstat x => cases x <;> rfl
  | ccprl i => cases i <;> rfl
  | ccprh i => cases i <;> rfl
  | ccpcon i => cases i <;> rfl
  | ccptsel i => cases i <;> rfl
  | pwmcon i => cases i <;> rfl
  | ccpas i => cases i <;> rfl
  | ccpstat i => cases i <;> rfl
  | ccppol i => cases i <;> rfl
  | clccon n => cases n <;> rfl
  | clcpol n => cases n <;> rfl
  | clcstat n => cases n <;> rfl
  | _ => rfl

end Sys2Proof
end

