-- ==== Sys2Proof/Laws/PerInstr.lean ====
section
/-!
SUPPORT. Laws/PerInstr.lean: the per-instruction family `Length`: "a reader knows a command's length from its first
word" (30_encoding.md R101), for the encoding of each constructor.
-/

namespace Sys2Proof.Laws.Length

open Sys2Proof

/-- The encoding of `i` is a header word that announces as many words as the encoding has. -/
def Statement (i : Instr) : Prop :=
  ∃ hdr args, encode i = hdr :: args ∧ cmdLen hdr = (encode i).length

theorem of_h (i : Instr) (op a : Byte) (b : Half) (he : encode i = [mkHdr op a b]) (h : isHA op.toNat = false) :
    Statement i :=
  ⟨mkHdr op a b, [], he, by simp [cmdLen, he, h]⟩

theorem of_ha (i : Instr) (op a : Byte) (b : Half) (v : Long) (he : encode i = mkHdr op a b :: argWords v)
    (h : isHA op.toNat = true) : Statement i :=
  ⟨mkHdr op a b, argWords v, he, by simp [cmdLen, he, h, argWords]⟩

theorem now : Statement (.now) :=
  of_h _ _ _ _ rfl rfl
theorem sched (a : TrigId) (b : Long) : Statement (.sched a b) :=
  of_ha _ _ _ _ _ rfl rfl
theorem cancel (a : TrigId) : Statement (.cancel a) :=
  of_h _ _ _ _ rfl rfl
theorem resched (a : TrigId) (b : Long) : Statement (.resched a b) :=
  of_ha _ _ _ _ _ rfl rfl
theorem advance : Statement (.advance) :=
  of_h _ _ _ _ rfl rfl
theorem step : Statement (.step) :=
  of_h _ _ _ _ rfl rfl
theorem setsrc (a : PinIx) (b : Option SrcId) : Statement (.setsrc a b) :=
  of_h _ _ _ _ rfl rfl
theorem setctl (a : PinIx) (b : Option CtlId) : Statement (.setctl a b) :=
  of_h _ _ _ _ rfl rfl
theorem addsink (a : PinIx) (b : SinkId) : Statement (.addsink a b) :=
  of_h _ _ _ _ rfl rfl
theorem rmsink (a : PinIx) (b : SinkId) : Statement (.rmsink a b) :=
  of_h _ _ _ _ rfl rfl
theorem updpin (a : PinIx) : Statement (.updpin a) :=
  of_h _ _ _ _ rfl rfl
theorem drive (a : PinIx) (b : Level) : Statement (.drive a b) :=
  of_h _ _ _ _ rfl rfl
theorem pinrd (a : PinIx) : Statement (.pinrd a) :=
  of_h _ _ _ _ rfl rfl
theorem attach (a : ChanKind) (b : RecvId) : Statement (.attach a b) :=
  of_h _ _ _ _ rfl rfl
theorem detach (a : ChanKind) (b : RecvId) : Statement (.detach a b) :=
  of_h _ _ _ _ rfl rfl
theorem publish (a : ChanKind) (b : Half) (c : Long) : Statement (.publish a b c) :=
  of_ha _ _ _ _ _ rfl rfl
theorem put (a : Byte) (b : Half) : Statement (.put a b) :=
  of_h _ _ _ _ rfl rfl
theorem get (a : Half) : Statement (.get a) :=
  of_h _ _ _ _ rfl rfl
theorem getv (a : Half) : Statement (.getv a) :=
  of_h _ _ _ _ rfl rfl
theorem setv (a : AdcInput) (b : Long) : Statement (.setv a b) :=
  of_ha _ _ _ _ _ rfl rfl
theorem getfreq : Statement (.getfreq) :=
  of_h _ _ _ _ rfl rfl
theorem sleep : Statement (.sleep) :=
  of_h _ _ _ _ rfl rfl
theorem wake : Statement (.wake) :=
  of_h _ _ _ _ rfl rfl
theorem reset : Statement (.reset) :=
  of_h _ _ _ _ rfl rfl
theorem putCycle0 (v : Byte) : Statement (.putCycle0 v) :=
  of_h _ _ _ _ rfl rfl
theorem putCycle1 (v : Byte) : Statement (.putCycle1 v) :=
  of_h _ _ _ _ rfl rfl
theorem putCycle2 (v : Byte) : Statement (.putCycle2 v) :=
  of_h _ _ _ _ rfl rfl
theorem putCycle3 (v : Byte) : Statement (.putCycle3 v) :=
  of_h _ _ _ _ rfl rfl
theorem putCycle4 (v : Byte) : Statement (.putCycle4 v) :=
  of_h _ _ _ _ rfl rfl
theorem putCycle5 (v : Byte) : Statement (.putCycle5 v) :=
  of_h _ _ _ _ rfl rfl
theorem putCycle6 (v : Byte) : Statement (.putCycle6 v) :=
  of_h _ _ _ _ rfl rfl
theorem putCycle7 (v : Byte) : Statement (.putCycle7 v) :=
  of_h _ _ _ _ rfl rfl
theorem putFault (v : Byte) : Statement (.putFault v) :=
  of_h _ _ _ _ rfl rfl
theorem putTmr0 (v : Byte) : Statement (.putTmr0 v) :=
  of_h _ _ _ _ rfl rfl
theorem putT0con (v : Byte) : Statement (.putT0con v) :=
  of_h _ _ _ _ rfl rfl
theorem putT0stat (v : Byte) : Statement (.putT0stat v) :=
  of_h _ _ _ _ rfl rfl
theorem putTmr1l (v : Byte) : Statement (.putTmr1l v) :=
  of_h _ _ _ _ rfl rfl
theorem putTmr1h (v : Byte) : Statement (.putTmr1h v) :=
  of_h _ _ _ _ rfl rfl
theorem putT1con (v : Byte) : Statement (.putT1con v) :=
  of_h _ _ _ _ rfl rfl
theorem putT1gcon (v : Byte) : Statement (.putT1gcon v) :=
  of_h _ _ _ _ rfl rfl
theorem putT1stat (v : Byte) : Statement (.putT1stat v) :=
  of_h _ _ _ _ rfl rfl
theorem putTmr2 (v : Byte) : Statement (.putTmr2 v) :=
  of_h _ _ _ _ rfl rfl
theorem putPr2 (v : Byte) : Statement (.putPr2 v) :=
  of_h _ _ _ _ rfl rfl
theorem putT2con (v : Byte) : Statement (.putT2con v) :=
  of_h _ _ _ _ rfl rfl
theorem putT2hlt (v : Byte) : Statement (.putT2hlt v) :=
  of_h _ _ _ _ rfl rfl
theorem putT2clkcon (v : Byte) : Statement (.putT2clkcon v) :=
  of_h _ _ _ _ rfl rfl
theorem putT2rst (v : Byte) : Statement (.putT2rst v) :=
  of_h _ _ _ _ rfl rfl
theorem putT2stat (v : Byte) : Statement (.putT2stat v) :=
  of_h _ _ _ _ rfl rfl
theorem putTmr4 (v : Byte) : Statement (.putTmr4 v) :=
  of_h _ _ _ _ rfl rfl
theorem putPr4 (v : Byte) : Statement (.putPr4 v) :=
  of_h _ _ _ _ rfl rfl
theorem putT4con (v : Byte) : Statement (.putT4con v) :=
  of_h _ _ _ _ rfl rfl
theorem putT4hlt (v : Byte) : Statement (.putT4hlt v) :=
  of_h _ _ _ _ rfl rfl
theorem putT4clkcon (v : Byte) : Statement (.putT4clkcon v) :=
  of_h _ _ _ _ rfl rfl
theorem putT4rst (v : Byte) : Statement (.putT4rst v) :=
  of_h _ _ _ _ rfl rfl
theorem putT4stat (v : Byte) : Statement (.putT4stat v) :=
  of_h _ _ _ _ rfl rfl
theorem putTmr6 (v : Byte) : Statement (.putTmr6 v) :=
  of_h _ _ _ _ rfl rfl
theorem putPr6 (v : Byte) : Statement (.putPr6 v) :=
  of_h _ _ _ _ rfl rfl
theorem putT6con (v : Byte) : Statement (.putT6con v) :=
  of_h _ _ _ _ rfl rfl
theorem putT6hlt (v : Byte) : Statement (.putT6hlt v) :=
  of_h _ _ _ _ rfl rfl
theorem putT6clkcon (v : Byte) : Statement (.putT6clkcon v) :=
  of_h _ _ _ _ rfl rfl
theorem putT6rst (v : Byte) : Statement (.putT6rst v) :=
  of_h _ _ _ _ rfl rfl
theorem putT6stat (v : Byte) : Statement (.putT6stat v) :=
  of_h _ _ _ _ rfl rfl
theorem putCcpr1l (v : Byte) : Statement (.putCcpr1l v) :=
  of_h _ _ _ _ rfl rfl
theorem putCcpr1h (v : Byte) : Statement (.putCcpr1h v) :=
  of_h _ _ _ _ rfl rfl
theorem putCcp1con (v : Byte) : Statement (.putCcp1con v) :=
  of_h _ _ _ _ rfl rfl
theorem putCcp1tsel (v : Byte) : Statement (.putCcp1tsel v) :=
  of_h _ _ _ _ rfl rfl
theorem putPwm1con (v : Byte) : Statement (.putPwm1con v) :=
  of_h _ _ _ _ rfl rfl
theorem putCcp1as (v : Byte) : Statement (.putCcp1as v) :=
  of_h _ _ _ _ rfl rfl
theorem putCcp1stat (v : Byte) : Statement (.putCcp1stat v) :=
  of_h _ _ _ _ rfl rfl
theorem putCcp1pol (v : Byte) : Statement (.putCcp1pol v) :=
  of_h _ _ _ _ rfl rfl
theorem putCcpr2l (v : Byte) : Statement (.putCcpr2l v) :=
  of_h _ _ _ _ rfl rfl
theorem putCcpr2h (v : Byte) : Statement (.putCcpr2h v) :=
  of_h _ _ _ _ rfl rfl
theorem putCcp2con (v : Byte) : Statement (.putCcp2con v) :=
  of_h _ _ _ _ rfl rfl
theorem putCcp2tsel (v : Byte) : Statement (.putCcp2tsel v) :=
  of_h _ _ _ _ rfl rfl
theorem putPwm2con (v : Byte) : Statement (.putPwm2con v) :=
  of_h _ _ _ _ rfl rfl
theorem putCcp2as (v : Byte) : Statement (.putCcp2as v) :=
  of_h _ _ _ _ rfl rfl
theorem putCcp2stat (v : Byte) : Statement (.putCcp2stat v) :=
  of_h _ _ _ _ rfl rfl
theorem putCcp2pol (v : Byte) : Statement (.putCcp2pol v) :=
  of_h _ _ _ _ rfl rfl
theorem putOsccon (v : Byte) : Statement (.putOsccon v) :=
  of_h _ _ _ _ rfl rfl
theorem putOsctune (v : Byte) : Statement (.putOsctune v) :=
  of_h _ _ _ _ rfl rfl
theorem putOscstat (v : Byte) : Statement (.putOscstat v) :=
  of_h _ _ _ _ rfl rfl
theorem putClc1con (v : Byte) : Statement (.putClc1con v) :=
  of_h _ _ _ _ rfl rfl
theorem putClc1pol (v : Byte) : Statement (.putClc1pol v) :=
  of_h _ _ _ _ rfl rfl
theorem putClc1sel0 (v : Byte) : Statement (.putClc1sel0 v) :=
  of_h _ _ _ _ rfl rfl
theorem putClc1sel1 (v : Byte) : Statement (.putClc1sel1 v) :=
  of_h _ _ _ _ rfl rfl
theorem putClc1sel2 (v : Byte) : Statement (.putClc1sel2 v) :=
  of_h _ _ _ _ rfl rfl
theorem putClc1sel3 (v : Byte) : Statement (.putClc1sel3 v) :=
  of_h _ _ _ _ rfl rfl
theorem putClc1gls0 (v : Byte) : Statement (.putClc1gls0 v) :=
  of_h _ _ _ _ rfl rfl
theorem putClc1gls1 (v : Byte) : Statement (.putClc1gls1 v) :=
  of_h _ _ _ _ rfl rfl
theorem putClc1gls2 (v : Byte) : Statement (.putClc1gls2 v) :=
  of_h _ _ _ _ rfl rfl
theorem putClc1gls3 (v : Byte) : Statement (.putClc1gls3 v) :=
  of_h _ _ _ _ rfl rfl
theorem putClc1stat (v : Byte) : Statement (.putClc1stat v) :=
  of_h _ _ _ _ rfl rfl
theorem putClc2con (v : Byte) : Statement (.putClc2con v) :=
  of_h _ _ _ _ rfl rfl
theorem putClc2pol (v : Byte) : Statement (.putClc2pol v) :=
  of_h _ _ _ _ rfl rfl
theorem putClc2sel0 (v : Byte) : Statement (.putClc2sel0 v) :=
  of_h _ _ _ _ rfl rfl
theorem putClc2sel1 (v : Byte) : Statement (.putClc2sel1 v) :=
  of_h _ _ _ _ rfl rfl
theorem putClc2sel2 (v : Byte) : Statement (.putClc2sel2 v) :=
  of_h _ _ _ _ rfl rfl
theorem putClc2sel3 (v : Byte) : Statement (.putClc2sel3 v) :=
  of_h _ _ _ _ rfl rfl
theorem putClc2gls0 (v : Byte) : Statement (.putClc2gls0 v) :=
  of_h _ _ _ _ rfl rfl
theorem putClc2gls1 (v : Byte) : Statement (.putClc2gls1 v) :=
  of_h _ _ _ _ rfl rfl
theorem putClc2gls2 (v : Byte) : Statement (.putClc2gls2 v) :=
  of_h _ _ _ _ rfl rfl
theorem putClc2gls3 (v : Byte) : Statement (.putClc2gls3 v) :=
  of_h _ _ _ _ rfl rfl
theorem putClc2stat (v : Byte) : Statement (.putClc2stat v) :=
  of_h _ _ _ _ rfl rfl
theorem putClc3con (v : Byte) : Statement (.putClc3con v) :=
  of_h _ _ _ _ rfl rfl
theorem putClc3pol (v : Byte) : Statement (.putClc3pol v) :=
  of_h _ _ _ _ rfl rfl
theorem putClc3sel0 (v : Byte) : Statement (.putClc3sel0 v) :=
  of_h _ _ _ _ rfl rfl
theorem putClc3sel1 (v : Byte) : Statement (.putClc3sel1 v) :=
  of_h _ _ _ _ rfl rfl
theorem putClc3sel2 (v : Byte) : Statement (.putClc3sel2 v) :=
  of_h _ _ _ _ rfl rfl
theorem putClc3sel3 (v : Byte) : Statement (.putClc3sel3 v) :=
  of_h _ _ _ _ rfl rfl
theorem putClc3gls0 (v : Byte) : Statement (.putClc3gls0 v) :=
  of_h _ _ _ _ rfl rfl
theorem putClc3gls1 (v : Byte) : Statement (.putClc3gls1 v) :=
  of_h _ _ _ _ rfl rfl
theorem putClc3gls2 (v : Byte) : Statement (.putClc3gls2 v) :=
  of_h _ _ _ _ rfl rfl
theorem putClc3gls3 (v : Byte) : Statement (.putClc3gls3 v) :=
  of_h _ _ _ _ rfl rfl
theorem putClc3stat (v : Byte) : Statement (.putClc3stat v) :=
  of_h _ _ _ _ rfl rfl
theorem putClc4con (v : Byte) : Statement (.putClc4con v) :=
  of_h _ _ _ _ rfl rfl
theorem putClc4pol (v : Byte) : Statement (.putClc4pol v) :=
  of_h _ _ _ _ rfl rfl
theorem putClc4sel0 (v : Byte) : Statement (.putClc4sel0 v) :=
  of_h _ _ _ _ rfl rfl
theorem putClc4sel1 (v : Byte) : Statement (.putClc4sel1 v) :=
  of_h _ _ _ _ rfl rfl
theorem putClc4sel2 (v : Byte) : Statement (.putClc4sel2 v) :=
  of_h _ _ _ _ rfl rfl
theorem putClc4sel3 (v : Byte) : Statement (.putClc4sel3 v) :=
  of_h _ _ _ _ rfl rfl
theorem putClc4gls0 (v : Byte) : Statement (.putClc4gls0 v) :=
  of_h _ _ _ _ rfl rfl
theorem putClc4gls1 (v : Byte) : Statement (.putClc4gls1 v) :=
  of_h _ _ _ _ rfl rfl
theorem putClc4gls2 (v : Byte) : Statement (.putClc4gls2 v) :=
  of_h _ _ _ _ rfl rfl
theorem putClc4gls3 (v : Byte) : Statement (.putClc4gls3 v) :=
  of_h _ _ _ _ rfl rfl
theorem putClc4stat (v : Byte) : Statement (.putClc4stat v) :=
  of_h _ _ _ _ rfl rfl
theorem putNcoaccl (v : Byte) : Statement (.putNcoaccl v) :=
  of_h _ _ _ _ rfl rfl
theorem putNcoacch (v : Byte) : Statement (.putNcoacch v) :=
  of_h _ _ _ _ rfl rfl
theorem putNcoaccu (v : Byte) : Statement (.putNcoaccu v) :=
  of_h _ _ _ _ rfl rfl
theorem putNcoincl (v : Byte) : Statement (.putNcoincl v) :=
  of_h _ _ _ _ rfl rfl
theorem putNcoinch (v : Byte) : Statement (.putNcoinch v) :=
  of_h _ _ _ _ rfl rfl
theorem putNcocon (v : Byte) : Statement (.putNcocon v) :=
  of_h _ _ _ _ rfl rfl
theorem putNcoclk (v : Byte) : Statement (.putNcoclk v) :=
  of_h _ _ _ _ rfl rfl
theorem putNcostat (v : Byte) : Statement (.putNcostat v) :=
  of_h _ _ _ _ rfl rfl
theorem putAdresl (v : Byte) : Statement (.putAdresl v) :=
  of_h _ _ _ _ rfl rfl
theorem putAdresh (v : Byte) : Statement (.putAdresh v) :=
  of_h _ _ _ _ rfl rfl
theorem putAdcon0 (v : Byte) : Statement (.putAdcon0 v) :=
  of_h _ _ _ _ rfl rfl
theorem putAdcon1 (v : Byte) : Statement (.putAdcon1 v) :=
  of_h _ _ _ _ rfl rfl
theorem putAdacq (v : Byte) : Statement (.putAdacq v) :=
  of_h _ _ _ _ rfl rfl
theorem putAdstat (v : Byte) : Statement (.putAdstat v) :=
  of_h _ _ _ _ rfl rfl

end Sys2Proof.Laws.Length
end

