-- ==== Sys2Proof/Laws/State.lean ====
section
/-!
SUPPORT. Laws/State.lean: what each named update of State leaves in each field, one lemma a field, all true by `rfl`.
-/

namespace Sys2Proof.Machine

open Sys2Proof

/-! ### emit -/

@[simp] theorem emit_cfg (r : OutRec) (s : State) : (emit r s).cfg = s.cfg := rfl
@[simp] theorem emit_cmds (r : OutRec) (s : State) : (emit r s).cmds = s.cmds := rfl
@[simp] theorem emit_now (r : OutRec) (s : State) : (emit r s).now = s.now := rfl
@[simp] theorem emit_seq (r : OutRec) (s : State) : (emit r s).seq = s.seq := rfl
@[simp] theorem emit_queue (r : OutRec) (s : State) : (emit r s).queue = s.queue := rfl
@[simp] theorem emit_faults (r : OutRec) (s : State) : (emit r s).faults = s.faults := rfl
@[simp] theorem emit_sleeping (r : OutRec) (s : State) : (emit r s).sleeping = s.sleeping := rfl
@[simp] theorem emit_firing (r : OutRec) (s : State) : (emit r s).firing = s.firing := rfl
@[simp] theorem emit_busDepth (r : OutRec) (s : State) : (emit r s).busDepth = s.busDepth := rfl
@[simp] theorem emit_pinDepth (r : OutRec) (s : State) : (emit r s).pinDepth = s.pinDepth := rfl
@[simp] theorem emit_out (r : OutRec) (s : State) : (emit r s).out = s.out ++ [r] := rfl
@[simp] theorem emit_pins (r : OutRec) (s : State) : (emit r s).pins = s.pins := rfl
@[simp] theorem emit_subs (r : OutRec) (s : State) : (emit r s).subs = s.subs := rfl
@[simp] theorem emit_t0 (r : OutRec) (s : State) : (emit r s).t0 = s.t0 := rfl
@[simp] theorem emit_t1 (r : OutRec) (s : State) : (emit r s).t1 = s.t1 := rfl
@[simp] theorem emit_t2 (r : OutRec) (s : State) : (emit r s).t2 = s.t2 := rfl
@[simp] theorem emit_t4 (r : OutRec) (s : State) : (emit r s).t4 = s.t4 := rfl
@[simp] theorem emit_t6 (r : OutRec) (s : State) : (emit r s).t6 = s.t6 := rfl
@[simp] theorem emit_ccp1 (r : OutRec) (s : State) : (emit r s).ccp1 = s.ccp1 := rfl
@[simp] theorem emit_ccp2 (r : OutRec) (s : State) : (emit r s).ccp2 = s.ccp2 := rfl
@[simp] theorem emit_osc (r : OutRec) (s : State) : (emit r s).osc = s.osc := rfl
@[simp] theorem emit_clc1 (r : OutRec) (s : State) : (emit r s).clc1 = s.clc1 := rfl
@[simp] theorem emit_clc2 (r : OutRec) (s : State) : (emit r s).clc2 = s.clc2 := rfl
@[simp] theorem emit_clc3 (r : OutRec) (s : State) : (emit r s).clc3 = s.clc3 := rfl
@[simp] theorem emit_clc4 (r : OutRec) (s : State) : (emit r s).clc4 = s.clc4 := rfl
@[simp] theorem emit_nco (r : OutRec) (s : State) : (emit r s).nco = s.nco := rfl
@[simp] theorem emit_adc (r : OutRec) (s : State) : (emit r s).adc = s.adc := rfl
@[simp] theorem emit_vin (r : OutRec) (s : State) : (emit r s).vin = s.vin := rfl
@[simp] theorem emit_vrefhi (r : OutRec) (s : State) : (emit r s).vrefhi = s.vrefhi := rfl
@[simp] theorem emit_vreflo (r : OutRec) (s : State) : (emit r s).vreflo = s.vreflo := rfl
@[simp] theorem emit_tm (r : OutRec) (s : State) (y : T2Id) : (emit r s).tm y = s.tm y := by cases y <;> rfl
@[simp] theorem emit_ccp (r : OutRec) (s : State) (j : CcpId) : (emit r s).ccp j = s.ccp j := by cases j <;> rfl
@[simp] theorem emit_clc (r : OutRec) (s : State) (d : ClcId) : (emit r s).clc d = s.clc d := by cases d <;> rfl
@[simp] theorem emit_subsOf (r : OutRec) (s : State) (k' : ChanKind) : (emit r s).subsOf k' = s.subsOf k' := rfl

/-! ### raiseFault -/

@[simp] theorem raiseFault_cfg (k : FaultKind) (s : State) : (raiseFault k s).cfg = s.cfg := rfl
@[simp] theorem raiseFault_cmds (k : FaultKind) (s : State) : (raiseFault k s).cmds = s.cmds := rfl
@[simp] theorem raiseFault_now (k : FaultKind) (s : State) : (raiseFault k s).now = s.now := rfl
@[simp] theorem raiseFault_seq (k : FaultKind) (s : State) : (raiseFault k s).seq = s.seq := rfl
@[simp] theorem raiseFault_queue (k : FaultKind) (s : State) : (raiseFault k s).queue = s.queue := rfl
@[simp] theorem raiseFault_faults (k : FaultKind) (s : State) : (raiseFault k s).faults = s.faults.add k := rfl
@[simp] theorem raiseFault_sleeping (k : FaultKind) (s : State) : (raiseFault k s).sleeping = s.sleeping := rfl
@[simp] theorem raiseFault_firing (k : FaultKind) (s : State) : (raiseFault k s).firing = s.firing := rfl
@[simp] theorem raiseFault_busDepth (k : FaultKind) (s : State) : (raiseFault k s).busDepth = s.busDepth := rfl
@[simp] theorem raiseFault_pinDepth (k : FaultKind) (s : State) : (raiseFault k s).pinDepth = s.pinDepth := rfl
@[simp] theorem raiseFault_out (k : FaultKind) (s : State) : (raiseFault k s).out = s.out := rfl
@[simp] theorem raiseFault_pins (k : FaultKind) (s : State) : (raiseFault k s).pins = s.pins := rfl
@[simp] theorem raiseFault_subs (k : FaultKind) (s : State) : (raiseFault k s).subs = s.subs := rfl
@[simp] theorem raiseFault_t0 (k : FaultKind) (s : State) : (raiseFault k s).t0 = s.t0 := rfl
@[simp] theorem raiseFault_t1 (k : FaultKind) (s : State) : (raiseFault k s).t1 = s.t1 := rfl
@[simp] theorem raiseFault_t2 (k : FaultKind) (s : State) : (raiseFault k s).t2 = s.t2 := rfl
@[simp] theorem raiseFault_t4 (k : FaultKind) (s : State) : (raiseFault k s).t4 = s.t4 := rfl
@[simp] theorem raiseFault_t6 (k : FaultKind) (s : State) : (raiseFault k s).t6 = s.t6 := rfl
@[simp] theorem raiseFault_ccp1 (k : FaultKind) (s : State) : (raiseFault k s).ccp1 = s.ccp1 := rfl
@[simp] theorem raiseFault_ccp2 (k : FaultKind) (s : State) : (raiseFault k s).ccp2 = s.ccp2 := rfl
@[simp] theorem raiseFault_osc (k : FaultKind) (s : State) : (raiseFault k s).osc = s.osc := rfl
@[simp] theorem raiseFault_clc1 (k : FaultKind) (s : State) : (raiseFault k s).clc1 = s.clc1 := rfl
@[simp] theorem raiseFault_clc2 (k : FaultKind) (s : State) : (raiseFault k s).clc2 = s.clc2 := rfl
@[simp] theorem raiseFault_clc3 (k : FaultKind) (s : State) : (raiseFault k s).clc3 = s.clc3 := rfl
@[simp] theorem raiseFault_clc4 (k : FaultKind) (s : State) : (raiseFault k s).clc4 = s.clc4 := rfl
@[simp] theorem raiseFault_nco (k : FaultKind) (s : State) : (raiseFault k s).nco = s.nco := rfl
@[simp] theorem raiseFault_adc (k : FaultKind) (s : State) : (raiseFault k s).adc = s.adc := rfl
@[simp] theorem raiseFault_vin (k : FaultKind) (s : State) : (raiseFault k s).vin = s.vin := rfl
@[simp] theorem raiseFault_vrefhi (k : FaultKind) (s : State) : (raiseFault k s).vrefhi = s.vrefhi := rfl
@[simp] theorem raiseFault_vreflo (k : FaultKind) (s : State) : (raiseFault k s).vreflo = s.vreflo := rfl
@[simp] theorem raiseFault_tm (k : FaultKind) (s : State) (y : T2Id) : (raiseFault k s).tm y = s.tm y := by cases y <;> rfl
@[simp] theorem raiseFault_ccp (k : FaultKind) (s : State) (j : CcpId) : (raiseFault k s).ccp j = s.ccp j := by cases j <;> rfl
@[simp] theorem raiseFault_clc (k : FaultKind) (s : State) (d : ClcId) : (raiseFault k s).clc d = s.clc d := by cases d <;> rfl
@[simp] theorem raiseFault_subsOf (k : FaultKind) (s : State) (k' : ChanKind) : (raiseFault k s).subsOf k' = s.subsOf k' := rfl

/-! ### cancel -/

@[simp] theorem cancel_cfg (t : TrigId) (s : State) : (cancel t s).cfg = s.cfg := rfl
@[simp] theorem cancel_cmds (t : TrigId) (s : State) : (cancel t s).cmds = s.cmds := rfl
@[simp] theorem cancel_now (t : TrigId) (s : State) : (cancel t s).now = s.now := rfl
@[simp] theorem cancel_seq (t : TrigId) (s : State) : (cancel t s).seq = s.seq := rfl
@[simp] theorem cancel_queue (t : TrigId) (s : State) : (cancel t s).queue = s.queue.filter (fun e => e.trig != t) := rfl
@[simp] theorem cancel_faults (t : TrigId) (s : State) : (cancel t s).faults = s.faults := rfl
@[simp] theorem cancel_sleeping (t : TrigId) (s : State) : (cancel t s).sleeping = s.sleeping := rfl
@[simp] theorem cancel_firing (t : TrigId) (s : State) : (cancel t s).firing = s.firing := rfl
@[simp] theorem cancel_busDepth (t : TrigId) (s : State) : (cancel t s).busDepth = s.busDepth := rfl
@[simp] theorem cancel_pinDepth (t : TrigId) (s : State) : (cancel t s).pinDepth = s.pinDepth := rfl
@[simp] theorem cancel_out (t : TrigId) (s : State) : (cancel t s).out = s.out := rfl
@[simp] theorem cancel_pins (t : TrigId) (s : State) : (cancel t s).pins = s.pins := rfl
@[simp] theorem cancel_subs (t : TrigId) (s : State) : (cancel t s).subs = s.subs := rfl
@[simp] theorem cancel_t0 (t : TrigId) (s : State) : (cancel t s).t0 = s.t0 := rfl
@[simp] theorem cancel_t1 (t : TrigId) (s : State) : (cancel t s).t1 = s.t1 := rfl
@[simp] theorem cancel_t2 (t : TrigId) (s : State) : (cancel t s).t2 = s.t2 := rfl
@[simp] theorem cancel_t4 (t : TrigId) (s : State) : (cancel t s).t4 = s.t4 := rfl
@[simp] theorem cancel_t6 (t : TrigId) (s : State) : (cancel t s).t6 = s.t6 := rfl
@[simp] theorem cancel_ccp1 (t : TrigId) (s : State) : (cancel t s).ccp1 = s.ccp1 := rfl
@[simp] theorem cancel_ccp2 (t : TrigId) (s : State) : (cancel t s).ccp2 = s.ccp2 := rfl
@[simp] theorem cancel_osc (t : TrigId) (s : State) : (cancel t s).osc = s.osc := rfl
@[simp] theorem cancel_clc1 (t : TrigId) (s : State) : (cancel t s).clc1 = s.clc1 := rfl
@[simp] theorem cancel_clc2 (t : TrigId) (s : State) : (cancel t s).clc2 = s.clc2 := rfl
@[simp] theorem cancel_clc3 (t : TrigId) (s : State) : (cancel t s).clc3 = s.clc3 := rfl
@[simp] theorem cancel_clc4 (t : TrigId) (s : State) : (cancel t s).clc4 = s.clc4 := rfl
@[simp] theorem cancel_nco (t : TrigId) (s : State) : (cancel t s).nco = s.nco := rfl
@[simp] theorem cancel_adc (t : TrigId) (s : State) : (cancel t s).adc = s.adc := rfl
@[simp] theorem cancel_vin (t : TrigId) (s : State) : (cancel t s).vin = s.vin := rfl
@[simp] theorem cancel_vrefhi (t : TrigId) (s : State) : (cancel t s).vrefhi = s.vrefhi := rfl
@[simp] theorem cancel_vreflo (t : TrigId) (s : State) : (cancel t s).vreflo = s.vreflo := rfl
@[simp] theorem cancel_tm (t : TrigId) (s : State) (y : T2Id) : (cancel t s).tm y = s.tm y := by cases y <;> rfl
@[simp] theorem cancel_ccp (t : TrigId) (s : State) (j : CcpId) : (cancel t s).ccp j = s.ccp j := by cases j <;> rfl
@[simp] theorem cancel_clc (t : TrigId) (s : State) (d : ClcId) : (cancel t s).clc d = s.clc d := by cases d <;> rfl
@[simp] theorem cancel_subsOf (t : TrigId) (s : State) (k' : ChanKind) : (cancel t s).subsOf k' = s.subsOf k' := rfl

/-! ### enqueue -/

@[simp] theorem enqueue_cfg (t : TrigId) (c : Nat) (s : State) : (enqueue t c s).cfg = s.cfg := rfl
@[simp] theorem enqueue_cmds (t : TrigId) (c : Nat) (s : State) : (enqueue t c s).cmds = s.cmds := rfl
@[simp] theorem enqueue_now (t : TrigId) (c : Nat) (s : State) : (enqueue t c s).now = s.now := rfl
@[simp] theorem enqueue_seq (t : TrigId) (c : Nat) (s : State) : (enqueue t c s).seq = s.seq + 1 := rfl
@[simp] theorem enqueue_queue (t : TrigId) (c : Nat) (s : State) : (enqueue t c s).queue = insertEvent ⟨c, s.seq, t⟩ s.queue := rfl
@[simp] theorem enqueue_faults (t : TrigId) (c : Nat) (s : State) : (enqueue t c s).faults = s.faults := rfl
@[simp] theorem enqueue_sleeping (t : TrigId) (c : Nat) (s : State) : (enqueue t c s).sleeping = s.sleeping := rfl
@[simp] theorem enqueue_firing (t : TrigId) (c : Nat) (s : State) : (enqueue t c s).firing = s.firing := rfl
@[simp] theorem enqueue_busDepth (t : TrigId) (c : Nat) (s : State) : (enqueue t c s).busDepth = s.busDepth := rfl
@[simp] theorem enqueue_pinDepth (t : TrigId) (c : Nat) (s : State) : (enqueue t c s).pinDepth = s.pinDepth := rfl
@[simp] theorem enqueue_out (t : TrigId) (c : Nat) (s : State) : (enqueue t c s).out = s.out := rfl
@[simp] theorem enqueue_pins (t : TrigId) (c : Nat) (s : State) : (enqueue t c s).pins = s.pins := rfl
@[simp] theorem enqueue_subs (t : TrigId) (c : Nat) (s : State) : (enqueue t c s).subs = s.subs := rfl
@[simp] theorem enqueue_t0 (t : TrigId) (c : Nat) (s : State) : (enqueue t c s).t0 = s.t0 := rfl
@[simp] theorem enqueue_t1 (t : TrigId) (c : Nat) (s : State) : (enqueue t c s).t1 = s.t1 := rfl
@[simp] theorem enqueue_t2 (t : TrigId) (c : Nat) (s : State) : (enqueue t c s).t2 = s.t2 := rfl
@[simp] theorem enqueue_t4 (t : TrigId) (c : Nat) (s : State) : (enqueue t c s).t4 = s.t4 := rfl
@[simp] theorem enqueue_t6 (t : TrigId) (c : Nat) (s : State) : (enqueue t c s).t6 = s.t6 := rfl
@[simp] theorem enqueue_ccp1 (t : TrigId) (c : Nat) (s : State) : (enqueue t c s).ccp1 = s.ccp1 := rfl
@[simp] theorem enqueue_ccp2 (t : TrigId) (c : Nat) (s : State) : (enqueue t c s).ccp2 = s.ccp2 := rfl
@[simp] theorem enqueue_osc (t : TrigId) (c : Nat) (s : State) : (enqueue t c s).osc = s.osc := rfl
@[simp] theorem enqueue_clc1 (t : TrigId) (c : Nat) (s : State) : (enqueue t c s).clc1 = s.clc1 := rfl
@[simp] theorem enqueue_clc2 (t : TrigId) (c : Nat) (s : State) : (enqueue t c s).clc2 = s.clc2 := rfl
@[simp] theorem enqueue_clc3 (t : TrigId) (c : Nat) (s : State) : (enqueue t c s).clc3 = s.clc3 := rfl
@[simp] theorem enqueue_clc4 (t : TrigId) (c : Nat) (s : State) : (enqueue t c s).clc4 = s.clc4 := rfl
@[simp] theorem enqueue_nco (t : TrigId) (c : Nat) (s : State) : (enqueue t c s).nco = s.nco := rfl
@[simp] theorem enqueue_adc (t : TrigId) (c : Nat) (s : State) : (enqueue t c s).adc = s.adc := rfl
@[simp] theorem enqueue_vin (t : TrigId) (c : Nat) (s : State) : (enqueue t c s).vin = s.vin := rfl
@[simp] theorem enqueue_vrefhi (t : TrigId) (c : Nat) (s : State) : (enqueue t c s).vrefhi = s.vrefhi := rfl
@[simp] theorem enqueue_vreflo (t : TrigId) (c : Nat) (s : State) : (enqueue t c s).vreflo = s.vreflo := rfl
@[simp] theorem enqueue_tm (t : TrigId) (c : Nat) (s : State) (y : T2Id) : (enqueue t c s).tm y = s.tm y := by cases y <;> rfl
@[simp] theorem enqueue_ccp (t : TrigId) (c : Nat) (s : State) (j : CcpId) : (enqueue t c s).ccp j = s.ccp j := by cases j <;> rfl
@[simp] theorem enqueue_clc (t : TrigId) (c : Nat) (s : State) (d : ClcId) : (enqueue t c s).clc d = s.clc d := by cases d <;> rfl
@[simp] theorem enqueue_subsOf (t : TrigId) (c : Nat) (s : State) (k' : ChanKind) : (enqueue t c s).subsOf k' = s.subsOf k' := rfl

/-! ### setPin -/

@[simp] theorem setPin_cfg (p : PinIx) (m : Pin) (s : State) : (s.setPin p m).cfg = s.cfg := rfl
@[simp] theorem setPin_cmds (p : PinIx) (m : Pin) (s : State) : (s.setPin p m).cmds = s.cmds := rfl
@[simp] theorem setPin_now (p : PinIx) (m : Pin) (s : State) : (s.setPin p m).now = s.now := rfl
@[simp] theorem setPin_seq (p : PinIx) (m : Pin) (s : State) : (s.setPin p m).seq = s.seq := rfl
@[simp] theorem setPin_queue (p : PinIx) (m : Pin) (s : State) : (s.setPin p m).queue = s.queue := rfl
@[simp] theorem setPin_faults (p : PinIx) (m : Pin) (s : State) : (s.setPin p m).faults = s.faults := rfl
@[simp] theorem setPin_sleeping (p : PinIx) (m : Pin) (s : State) : (s.setPin p m).sleeping = s.sleeping := rfl
@[simp] theorem setPin_firing (p : PinIx) (m : Pin) (s : State) : (s.setPin p m).firing = s.firing := rfl
@[simp] theorem setPin_busDepth (p : PinIx) (m : Pin) (s : State) : (s.setPin p m).busDepth = s.busDepth := rfl
@[simp] theorem setPin_pinDepth (p : PinIx) (m : Pin) (s : State) : (s.setPin p m).pinDepth = s.pinDepth := rfl
@[simp] theorem setPin_out (p : PinIx) (m : Pin) (s : State) : (s.setPin p m).out = s.out := rfl
@[simp] theorem setPin_pins (p : PinIx) (m : Pin) (s : State) : (s.setPin p m).pins = s.pins.set p m := rfl
@[simp] theorem setPin_subs (p : PinIx) (m : Pin) (s : State) : (s.setPin p m).subs = s.subs := rfl
@[simp] theorem setPin_t0 (p : PinIx) (m : Pin) (s : State) : (s.setPin p m).t0 = s.t0 := rfl
@[simp] theorem setPin_t1 (p : PinIx) (m : Pin) (s : State) : (s.setPin p m).t1 = s.t1 := rfl
@[simp] theorem setPin_t2 (p : PinIx) (m : Pin) (s : State) : (s.setPin p m).t2 = s.t2 := rfl
@[simp] theorem setPin_t4 (p : PinIx) (m : Pin) (s : State) : (s.setPin p m).t4 = s.t4 := rfl
@[simp] theorem setPin_t6 (p : PinIx) (m : Pin) (s : State) : (s.setPin p m).t6 = s.t6 := rfl
@[simp] theorem setPin_ccp1 (p : PinIx) (m : Pin) (s : State) : (s.setPin p m).ccp1 = s.ccp1 := rfl
@[simp] theorem setPin_ccp2 (p : PinIx) (m : Pin) (s : State) : (s.setPin p m).ccp2 = s.ccp2 := rfl
@[simp] theorem setPin_osc (p : PinIx) (m : Pin) (s : State) : (s.setPin p m).osc = s.osc := rfl
@[simp] theorem setPin_clc1 (p : PinIx) (m : Pin) (s : State) : (s.setPin p m).clc1 = s.clc1 := rfl
@[simp] theorem setPin_clc2 (p : PinIx) (m : Pin) (s : State) : (s.setPin p m).clc2 = s.clc2 := rfl
@[simp] theorem setPin_clc3 (p : PinIx) (m : Pin) (s : State) : (s.setPin p m).clc3 = s.clc3 := rfl
@[simp] theorem setPin_clc4 (p : PinIx) (m : Pin) (s : State) : (s.setPin p m).clc4 = s.clc4 := rfl
@[simp] theorem setPin_nco (p : PinIx) (m : Pin) (s : State) : (s.setPin p m).nco = s.nco := rfl
@[simp] theorem setPin_adc (p : PinIx) (m : Pin) (s : State) : (s.setPin p m).adc = s.adc := rfl
@[simp] theorem setPin_vin (p : PinIx) (m : Pin) (s : State) : (s.setPin p m).vin = s.vin := rfl
@[simp] theorem setPin_vrefhi (p : PinIx) (m : Pin) (s : State) : (s.setPin p m).vrefhi = s.vrefhi := rfl
@[simp] theorem setPin_vreflo (p : PinIx) (m : Pin) (s : State) : (s.setPin p m).vreflo = s.vreflo := rfl
@[simp] theorem setPin_tm (p : PinIx) (m : Pin) (s : State) (y : T2Id) : (s.setPin p m).tm y = s.tm y := by cases y <;> rfl
@[simp] theorem setPin_ccp (p : PinIx) (m : Pin) (s : State) (j : CcpId) : (s.setPin p m).ccp j = s.ccp j := by cases j <;> rfl
@[simp] theorem setPin_clc (p : PinIx) (m : Pin) (s : State) (d : ClcId) : (s.setPin p m).clc d = s.clc d := by cases d <;> rfl
@[simp] theorem setPin_subsOf (p : PinIx) (m : Pin) (s : State) (k' : ChanKind) : (s.setPin p m).subsOf k' = s.subsOf k' := rfl

/-! ### setSubs -/

@[simp] theorem setSubs_cfg (k : ChanKind) (l : List RecvId) (s : State) : (s.setSubs k l).cfg = s.cfg := rfl
@[simp] theorem setSubs_cmds (k : ChanKind) (l : List RecvId) (s : State) : (s.setSubs k l).cmds = s.cmds := rfl
@[simp] theorem setSubs_now (k : ChanKind) (l : List RecvId) (s : State) : (s.setSubs k l).now = s.now := rfl
@[simp] theorem setSubs_seq (k : ChanKind) (l : List RecvId) (s : State) : (s.setSubs k l).seq = s.seq := rfl
@[simp] theorem setSubs_queue (k : ChanKind) (l : List RecvId) (s : State) : (s.setSubs k l).queue = s.queue := rfl
@[simp] theorem setSubs_faults (k : ChanKind) (l : List RecvId) (s : State) : (s.setSubs k l).faults = s.faults := rfl
@[simp] theorem setSubs_sleeping (k : ChanKind) (l : List RecvId) (s : State) : (s.setSubs k l).sleeping = s.sleeping := rfl
@[simp] theorem setSubs_firing (k : ChanKind) (l : List RecvId) (s : State) : (s.setSubs k l).firing = s.firing := rfl
@[simp] theorem setSubs_busDepth (k : ChanKind) (l : List RecvId) (s : State) : (s.setSubs k l).busDepth = s.busDepth := rfl
@[simp] theorem setSubs_pinDepth (k : ChanKind) (l : List RecvId) (s : State) : (s.setSubs k l).pinDepth = s.pinDepth := rfl
@[simp] theorem setSubs_out (k : ChanKind) (l : List RecvId) (s : State) : (s.setSubs k l).out = s.out := rfl
@[simp] theorem setSubs_pins (k : ChanKind) (l : List RecvId) (s : State) : (s.setSubs k l).pins = s.pins := rfl
@[simp] theorem setSubs_subs (k : ChanKind) (l : List RecvId) (s : State) : (s.setSubs k l).subs = s.subs.set (kindIx k) l := rfl
@[simp] theorem setSubs_t0 (k : ChanKind) (l : List RecvId) (s : State) : (s.setSubs k l).t0 = s.t0 := rfl
@[simp] theorem setSubs_t1 (k : ChanKind) (l : List RecvId) (s : State) : (s.setSubs k l).t1 = s.t1 := rfl
@[simp] theorem setSubs_t2 (k : ChanKind) (l : List RecvId) (s : State) : (s.setSubs k l).t2 = s.t2 := rfl
@[simp] theorem setSubs_t4 (k : ChanKind) (l : List RecvId) (s : State) : (s.setSubs k l).t4 = s.t4 := rfl
@[simp] theorem setSubs_t6 (k : ChanKind) (l : List RecvId) (s : State) : (s.setSubs k l).t6 = s.t6 := rfl
@[simp] theorem setSubs_ccp1 (k : ChanKind) (l : List RecvId) (s : State) : (s.setSubs k l).ccp1 = s.ccp1 := rfl
@[simp] theorem setSubs_ccp2 (k : ChanKind) (l : List RecvId) (s : State) : (s.setSubs k l).ccp2 = s.ccp2 := rfl
@[simp] theorem setSubs_osc (k : ChanKind) (l : List RecvId) (s : State) : (s.setSubs k l).osc = s.osc := rfl
@[simp] theorem setSubs_clc1 (k : ChanKind) (l : List RecvId) (s : State) : (s.setSubs k l).clc1 = s.clc1 := rfl
@[simp] theorem setSubs_clc2 (k : ChanKind) (l : List RecvId) (s : State) : (s.setSubs k l).clc2 = s.clc2 := rfl
@[simp] theorem setSubs_clc3 (k : ChanKind) (l : List RecvId) (s : State) : (s.setSubs k l).clc3 = s.clc3 := rfl
@[simp] theorem setSubs_clc4 (k : ChanKind) (l : List RecvId) (s : State) : (s.setSubs k l).clc4 = s.clc4 := rfl
@[simp] theorem setSubs_nco (k : ChanKind) (l : List RecvId) (s : State) : (s.setSubs k l).nco = s.nco := rfl
@[simp] theorem setSubs_adc (k : ChanKind) (l : List RecvId) (s : State) : (s.setSubs k l).adc = s.adc := rfl
@[simp] theorem setSubs_vin (k : ChanKind) (l : List RecvId) (s : State) : (s.setSubs k l).vin = s.vin := rfl
@[simp] theorem setSubs_vrefhi (k : ChanKind) (l : List RecvId) (s : State) : (s.setSubs k l).vrefhi = s.vrefhi := rfl
@[simp] theorem setSubs_vreflo (k : ChanKind) (l : List RecvId) (s : State) : (s.setSubs k l).vreflo = s.vreflo := rfl
@[simp] theorem setSubs_tm (k : ChanKind) (l : List RecvId) (s : State) (y : T2Id) : (s.setSubs k l).tm y = s.tm y := by cases y <;> rfl
@[simp] theorem setSubs_ccp (k : ChanKind) (l : List RecvId) (s : State) (j : CcpId) : (s.setSubs k l).ccp j = s.ccp j := by cases j <;> rfl
@[simp] theorem setSubs_clc (k : ChanKind) (l : List RecvId) (s : State) (d : ClcId) : (s.setSubs k l).clc d = s.clc d := by cases d <;> rfl

/-! ### consume -/

@[simp] theorem consume_cfg (l : List Word) (s : State) : (s.consume l).cfg = s.cfg := rfl
@[simp] theorem consume_cmds (l : List Word) (s : State) : (s.consume l).cmds = l := rfl
@[simp] theorem consume_now (l : List Word) (s : State) : (s.consume l).now = s.now := rfl
@[simp] theorem consume_seq (l : List Word) (s : State) : (s.consume l).seq = s.seq := rfl
@[simp] theorem consume_queue (l : List Word) (s : State) : (s.consume l).queue = s.queue := rfl
@[simp] theorem consume_faults (l : List Word) (s : State) : (s.consume l).faults = s.faults := rfl
@[simp] theorem consume_sleeping (l : List Word) (s : State) : (s.consume l).sleeping = s.sleeping := rfl
@[simp] theorem consume_firing (l : List Word) (s : State) : (s.consume l).firing = s.firing := rfl
@[simp] theorem consume_busDepth (l : List Word) (s : State) : (s.consume l).busDepth = s.busDepth := rfl
@[simp] theorem consume_pinDepth (l : List Word) (s : State) : (s.consume l).pinDepth = s.pinDepth := rfl
@[simp] theorem consume_out (l : List Word) (s : State) : (s.consume l).out = s.out := rfl
@[simp] theorem consume_pins (l : List Word) (s : State) : (s.consume l).pins = s.pins := rfl
@[simp] theorem consume_subs (l : List Word) (s : State) : (s.consume l).subs = s.subs := rfl
@[simp] theorem consume_t0 (l : List Word) (s : State) : (s.consume l).t0 = s.t0 := rfl
@[simp] theorem consume_t1 (l : List Word) (s : State) : (s.consume l).t1 = s.t1 := rfl
@[simp] theorem consume_t2 (l : List Word) (s : State) : (s.consume l).t2 = s.t2 := rfl
@[simp] theorem consume_t4 (l : List Word) (s : State) : (s.consume l).t4 = s.t4 := rfl
@[simp] theorem consume_t6 (l : List Word) (s : State) : (s.consume l).t6 = s.t6 := rfl
@[simp] theorem consume_ccp1 (l : List Word) (s : State) : (s.consume l).ccp1 = s.ccp1 := rfl
@[simp] theorem consume_ccp2 (l : List Word) (s : State) : (s.consume l).ccp2 = s.ccp2 := rfl
@[simp] theorem consume_osc (l : List Word) (s : State) : (s.consume l).osc = s.osc := rfl
@[simp] theorem consume_clc1 (l : List Word) (s : State) : (s.consume l).clc1 = s.clc1 := rfl
@[simp] theorem consume_clc2 (l : List Word) (s : State) : (s.consume l).clc2 = s.clc2 := rfl
@[simp] theorem consume_clc3 (l : List Word) (s : State) : (s.consume l).clc3 = s.clc3 := rfl
@[simp] theorem consume_clc4 (l : List Word) (s : State) : (s.consume l).clc4 = s.clc4 := rfl
@[simp] theorem consume_nco (l : List Word) (s : State) : (s.consume l).nco = s.nco := rfl
@[simp] theorem consume_adc (l : List Word) (s : State) : (s.consume l).adc = s.adc := rfl
@[simp] theorem consume_vin (l : List Word) (s : State) : (s.consume l).vin = s.vin := rfl
@[simp] theorem consume_vrefhi (l : List Word) (s : State) : (s.consume l).vrefhi = s.vrefhi := rfl
@[simp] theorem consume_vreflo (l : List Word) (s : State) : (s.consume l).vreflo = s.vreflo := rfl
@[simp] theorem consume_tm (l : List Word) (s : State) (y : T2Id) : (s.consume l).tm y = s.tm y := by cases y <;> rfl
@[simp] theorem consume_ccp (l : List Word) (s : State) (j : CcpId) : (s.consume l).ccp j = s.ccp j := by cases j <;> rfl
@[simp] theorem consume_clc (l : List Word) (s : State) (d : ClcId) : (s.consume l).clc d = s.clc d := by cases d <;> rfl
@[simp] theorem consume_subsOf (l : List Word) (s : State) (k' : ChanKind) : (s.consume l).subsOf k' = s.subsOf k' := rfl

/-! ### setTm -/

@[simp] theorem setTm_cfg (x : T2Id) (u : Timer2) (s : State) : (s.setTm x u).cfg = s.cfg := by cases x <;> rfl
@[simp] theorem setTm_cmds (x : T2Id) (u : Timer2) (s : State) : (s.setTm x u).cmds = s.cmds := by cases x <;> rfl
@[simp] theorem setTm_now (x : T2Id) (u : Timer2) (s : State) : (s.setTm x u).now = s.now := by cases x <;> rfl
@[simp] theorem setTm_seq (x : T2Id) (u : Timer2) (s : State) : (s.setTm x u).seq = s.seq := by cases x <;> rfl
@[simp] theorem setTm_queue (x : T2Id) (u : Timer2) (s : State) : (s.setTm x u).queue = s.queue := by cases x <;> rfl
@[simp] theorem setTm_faults (x : T2Id) (u : Timer2) (s : State) : (s.setTm x u).faults = s.faults := by cases x <;> rfl
@[simp] theorem setTm_sleeping (x : T2Id) (u : Timer2) (s : State) : (s.setTm x u).sleeping = s.sleeping := by cases x <;> rfl
@[simp] theorem setTm_firing (x : T2Id) (u : Timer2) (s : State) : (s.setTm x u).firing = s.firing := by cases x <;> rfl
@[simp] theorem setTm_busDepth (x : T2Id) (u : Timer2) (s : State) : (s.setTm x u).busDepth = s.busDepth := by cases x <;> rfl
@[simp] theorem setTm_pinDepth (x : T2Id) (u : Timer2) (s : State) : (s.setTm x u).pinDepth = s.pinDepth := by cases x <;> rfl
@[simp] theorem setTm_out (x : T2Id) (u : Timer2) (s : State) : (s.setTm x u).out = s.out := by cases x <;> rfl
@[simp] theorem setTm_pins (x : T2Id) (u : Timer2) (s : State) : (s.setTm x u).pins = s.pins := by cases x <;> rfl
@[simp] theorem setTm_subs (x : T2Id) (u : Timer2) (s : State) : (s.setTm x u).subs = s.subs := by cases x <;> rfl
@[simp] theorem setTm_t0 (x : T2Id) (u : Timer2) (s : State) : (s.setTm x u).t0 = s.t0 := by cases x <;> rfl
@[simp] theorem setTm_t1 (x : T2Id) (u : Timer2) (s : State) : (s.setTm x u).t1 = s.t1 := by cases x <;> rfl
@[simp] theorem setTm_ccp1 (x : T2Id) (u : Timer2) (s : State) : (s.setTm x u).ccp1 = s.ccp1 := by cases x <;> rfl
@[simp] theorem setTm_ccp2 (x : T2Id) (u : Timer2) (s : State) : (s.setTm x u).ccp2 = s.ccp2 := by cases x <;> rfl
@[simp] theorem setTm_osc (x : T2Id) (u : Timer2) (s : State) : (s.setTm x u).osc = s.osc := by cases x <;> rfl
@[simp] theorem setTm_clc1 (x : T2Id) (u : Timer2) (s : State) : (s.setTm x u).clc1 = s.clc1 := by cases x <;> rfl
@[simp] theorem setTm_clc2 (x : T2Id) (u : Timer2) (s : State) : (s.setTm x u).clc2 = s.clc2 := by cases x <;> rfl
@[simp] theorem setTm_clc3 (x : T2Id) (u : Timer2) (s : State) : (s.setTm x u).clc3 = s.clc3 := by cases x <;> rfl
@[simp] theorem setTm_clc4 (x : T2Id) (u : Timer2) (s : State) : (s.setTm x u).clc4 = s.clc4 := by cases x <;> rfl
@[simp] theorem setTm_nco (x : T2Id) (u : Timer2) (s : State) : (s.setTm x u).nco = s.nco := by cases x <;> rfl
@[simp] theorem setTm_adc (x : T2Id) (u : Timer2) (s : State) : (s.setTm x u).adc = s.adc := by cases x <;> rfl
@[simp] theorem setTm_vin (x : T2Id) (u : Timer2) (s : State) : (s.setTm x u).vin = s.vin := by cases x <;> rfl
@[simp] theorem setTm_vrefhi (x : T2Id) (u : Timer2) (s : State) : (s.setTm x u).vrefhi = s.vrefhi := by cases x <;> rfl
@[simp] theorem setTm_vreflo (x : T2Id) (u : Timer2) (s : State) : (s.setTm x u).vreflo = s.vreflo := by cases x <;> rfl
@[simp] theorem setTm_tm_same (x : T2Id) (u : Timer2) (s : State) : (s.setTm x u).tm x = u := by cases x <;> rfl
theorem setTm_tm_other (x : T2Id) (u : Timer2) (s : State) (y : T2Id) (h : y ≠ x) : (s.setTm x u).tm y = s.tm y := by
  cases x <;> cases y <;> first | rfl | exact absurd rfl h
@[simp] theorem setTm_ccp (x : T2Id) (u : Timer2) (s : State) (j : CcpId) : (s.setTm x u).ccp j = s.ccp j := by cases x <;> cases j <;> rfl
@[simp] theorem setTm_clc (x : T2Id) (u : Timer2) (s : State) (d : ClcId) : (s.setTm x u).clc d = s.clc d := by cases x <;> cases d <;> rfl
@[simp] theorem setTm_subsOf (x : T2Id) (u : Timer2) (s : State) (k : ChanKind) : (s.setTm x u).subsOf k = s.subsOf k := by cases x <;> rfl

/-! ### setCcp -/

@[simp] theorem setCcp_cfg (i : CcpId) (u : Ccp) (s : State) : (s.setCcp i u).cfg = s.cfg := by cases i <;> rfl
@[simp] theorem setCcp_cmds (i : CcpId) (u : Ccp) (s : State) : (s.setCcp i u).cmds = s.cmds := by cases i <;> rfl
@[simp] theorem setCcp_now (i : CcpId) (u : Ccp) (s : State) : (s.setCcp i u).now = s.now := by cases i <;> rfl
@[simp] theorem setCcp_seq (i : CcpId) (u : Ccp) (s : State) : (s.setCcp i u).seq = s.seq := by cases i <;> rfl
@[simp] theorem setCcp_queue (i : CcpId) (u : Ccp) (s : State) : (s.setCcp i u).queue = s.queue := by cases i <;> rfl
@[simp] theorem setCcp_faults (i : CcpId) (u : Ccp) (s : State) : (s.setCcp i u).faults = s.faults := by cases i <;> rfl
@[simp] theorem setCcp_sleeping (i : CcpId) (u : Ccp) (s : State) : (s.setCcp i u).sleeping = s.sleeping := by cases i <;> rfl
@[simp] theorem setCcp_firing (i : CcpId) (u : Ccp) (s : State) : (s.setCcp i u).firing = s.firing := by cases i <;> rfl
@[simp] theorem setCcp_busDepth (i : CcpId) (u : Ccp) (s : State) : (s.setCcp i u).busDepth = s.busDepth := by cases i <;> rfl
@[simp] theorem setCcp_pinDepth (i : CcpId) (u : Ccp) (s : State) : (s.setCcp i u).pinDepth = s.pinDepth := by cases i <;> rfl
@[simp] theorem setCcp_out (i : CcpId) (u : Ccp) (s : State) : (s.setCcp i u).out = s.out := by cases i <;> rfl
@[simp] theorem setCcp_pins (i : CcpId) (u : Ccp) (s : State) : (s.setCcp i u).pins = s.pins := by cases i <;> rfl
@[simp] theorem setCcp_subs (i : CcpId) (u : Ccp) (s : State) : (s.setCcp i u).subs = s.subs := by cases i <;> rfl
@[simp] theorem setCcp_t0 (i : CcpId) (u : Ccp) (s : State) : (s.setCcp i u).t0 = s.t0 := by cases i <;> rfl
@[simp] theorem setCcp_t1 (i : CcpId) (u : Ccp) (s : State) : (s.setCcp i u).t1 = s.t1 := by cases i <;> rfl
@[simp] theorem setCcp_t2 (i : CcpId) (u : Ccp) (s : State) : (s.setCcp i u).t2 = s.t2 := by cases i <;> rfl
@[simp] theorem setCcp_t4 (i : CcpId) (u : Ccp) (s : State) : (s.setCcp i u).t4 = s.t4 := by cases i <;> rfl
@[simp] theorem setCcp_t6 (i : CcpId) (u : Ccp) (s : State) : (s.setCcp i u).t6 = s.t6 := by cases i <;> rfl
@[simp] theorem setCcp_osc (i : CcpId) (u : Ccp) (s : State) : (s.setCcp i u).osc = s.osc := by cases i <;> rfl
@[simp] theorem setCcp_clc1 (i : CcpId) (u : Ccp) (s : State) : (s.setCcp i u).clc1 = s.clc1 := by cases i <;> rfl
@[simp] theorem setCcp_clc2 (i : CcpId) (u : Ccp) (s : State) : (s.setCcp i u).clc2 = s.clc2 := by cases i <;> rfl
@[simp] theorem setCcp_clc3 (i : CcpId) (u : Ccp) (s : State) : (s.setCcp i u).clc3 = s.clc3 := by cases i <;> rfl
@[simp] theorem setCcp_clc4 (i : CcpId) (u : Ccp) (s : State) : (s.setCcp i u).clc4 = s.clc4 := by cases i <;> rfl
@[simp] theorem setCcp_nco (i : CcpId) (u : Ccp) (s : State) : (s.setCcp i u).nco = s.nco := by cases i <;> rfl
@[simp] theorem setCcp_adc (i : CcpId) (u : Ccp) (s : State) : (s.setCcp i u).adc = s.adc := by cases i <;> rfl
@[simp] theorem setCcp_vin (i : CcpId) (u : Ccp) (s : State) : (s.setCcp i u).vin = s.vin := by cases i <;> rfl
@[simp] theorem setCcp_vrefhi (i : CcpId) (u : Ccp) (s : State) : (s.setCcp i u).vrefhi = s.vrefhi := by cases i <;> rfl
@[simp] theorem setCcp_vreflo (i : CcpId) (u : Ccp) (s : State) : (s.setCcp i u).vreflo = s.vreflo := by cases i <;> rfl
@[simp] theorem setCcp_tm (i : CcpId) (u : Ccp) (s : State) (y : T2Id) : (s.setCcp i u).tm y = s.tm y := by cases i <;> cases y <;> rfl
@[simp] theorem setCcp_ccp_same (i : CcpId) (u : Ccp) (s : State) : (s.setCcp i u).ccp i = u := by cases i <;> rfl
theorem setCcp_ccp_other (i : CcpId) (u : Ccp) (s : State) (j : CcpId) (h : j ≠ i) : (s.setCcp i u).ccp j = s.ccp j := by
  cases i <;> cases j <;> first | rfl | exact absurd rfl h
@[simp] theorem setCcp_clc (i : CcpId) (u : Ccp) (s : State) (d : ClcId) : (s.setCcp i u).clc d = s.clc d := by cases i <;> cases d <;> rfl
@[simp] theorem setCcp_subsOf (i : CcpId) (u : Ccp) (s : State) (k : ChanKind) : (s.setCcp i u).subsOf k = s.subsOf k := by cases i <;> rfl

/-! ### setClc -/

@[simp] theorem setClc_cfg (n : ClcId) (u : Clc) (s : State) : (s.setClc n u).cfg = s.cfg := by cases n <;> rfl
@[simp] theorem setClc_cmds (n : ClcId) (u : Clc) (s : State) : (s.setClc n u).cmds = s.cmds := by cases n <;> rfl
@[simp] theorem setClc_now (n : ClcId) (u : Clc) (s : State) : (s.setClc n u).now = s.now := by cases n <;> rfl
@[simp] theorem setClc_seq (n : ClcId) (u : Clc) (s : State) : (s.setClc n u).seq = s.seq := by cases n <;> rfl
@[simp] theorem setClc_queue (n : ClcId) (u : Clc) (s : State) : (s.setClc n u).queue = s.queue := by cases n <;> rfl
@[simp] theorem setClc_faults (n : ClcId) (u : Clc) (s : State) : (s.setClc n u).faults = s.faults := by cases n <;> rfl
@[simp] theorem setClc_sleeping (n : ClcId) (u : Clc) (s : State) : (s.setClc n u).sleeping = s.sleeping := by cases n <;> rfl
@[simp] theorem setClc_firing (n : ClcId) (u : Clc) (s : State) : (s.setClc n u).firing = s.firing := by cases n <;> rfl
@[simp] theorem setClc_busDepth (n : ClcId) (u : Clc) (s : State) : (s.setClc n u).busDepth = s.busDepth := by cases n <;> rfl
@[simp] theorem setClc_pinDepth (n : ClcId) (u : Clc) (s : State) : (s.setClc n u).pinDepth = s.pinDepth := by cases n <;> rfl
@[simp] theorem setClc_out (n : ClcId) (u : Clc) (s : State) : (s.setClc n u).out = s.out := by cases n <;> rfl
@[simp] theorem setClc_pins (n : ClcId) (u : Clc) (s : State) : (s.setClc n u).pins = s.pins := by cases n <;> rfl
@[simp] theorem setClc_subs (n : ClcId) (u : Clc) (s : State) : (s.setClc n u).subs = s.subs := by cases n <;> rfl
@[simp] theorem setClc_t0 (n : ClcId) (u : Clc) (s : State) : (s.setClc n u).t0 = s.t0 := by cases n <;> rfl
@[simp] theorem setClc_t1 (n : ClcId) (u : Clc) (s : State) : (s.setClc n u).t1 = s.t1 := by cases n <;> rfl
@[simp] theorem setClc_t2 (n : ClcId) (u : Clc) (s : State) : (s.setClc n u).t2 = s.t2 := by cases n <;> rfl
@[simp] theorem setClc_t4 (n : ClcId) (u : Clc) (s : State) : (s.setClc n u).t4 = s.t4 := by cases n <;> rfl
@[simp] theorem setClc_t6 (n : ClcId) (u : Clc) (s : State) : (s.setClc n u).t6 = s.t6 := by cases n <;> rfl
@[simp] theorem setClc_ccp1 (n : ClcId) (u : Clc) (s : State) : (s.setClc n u).ccp1 = s.ccp1 := by cases n <;> rfl
@[simp] theorem setClc_ccp2 (n : ClcId) (u : Clc) (s : State) : (s.setClc n u).ccp2 = s.ccp2 := by cases n <;> rfl
@[simp] theorem setClc_osc (n : ClcId) (u : Clc) (s : State) : (s.setClc n u).osc = s.osc := by cases n <;> rfl
@[simp] theorem setClc_nco (n : ClcId) (u : Clc) (s : State) : (s.setClc n u).nco = s.nco := by cases n <;> rfl
@[simp] theorem setClc_adc (n : ClcId) (u : Clc) (s : State) : (s.setClc n u).adc = s.adc := by cases n <;> rfl
@[simp] theorem setClc_vin (n : ClcId) (u : Clc) (s : State) : (s.setClc n u).vin = s.vin := by cases n <;> rfl
@[simp] theorem setClc_vrefhi (n : ClcId) (u : Clc) (s : State) : (s.setClc n u).vrefhi = s.vrefhi := by cases n <;> rfl
@[simp] theorem setClc_vreflo (n : ClcId) (u : Clc) (s : State) : (s.setClc n u).vreflo = s.vreflo := by cases n <;> rfl
@[simp] theorem setClc_tm (n : ClcId) (u : Clc) (s : State) (y : T2Id) : (s.setClc n u).tm y = s.tm y := by cases n <;> cases y <;> rfl
@[simp] theorem setClc_ccp (n : ClcId) (u : Clc) (s : State) (j : CcpId) : (s.setClc n u).ccp j = s.ccp j := by cases n <;> cases j <;> rfl
@[simp] theorem setClc_clc_same (n : ClcId) (u : Clc) (s : State) : (s.setClc n u).clc n = u := by cases n <;> rfl
theorem setClc_clc_other (n : ClcId) (u : Clc) (s : State) (d : ClcId) (h : d ≠ n) : (s.setClc n u).clc d = s.clc d := by
  cases n <;> cases d <;> first | rfl | exact absurd rfl h
@[simp] theorem setClc_subsOf (n : ClcId) (u : Clc) (s : State) (k : ChanKind) : (s.setClc n u).subsOf k = s.subsOf k := by cases n <;> rfl

/-! ### setFlag -/

@[simp] theorem setFlag_cfg (f : Flag) (v : Bool) (s : State) : (s.setFlag f v).cfg = s.cfg := by
  cases f <;> first | rfl | (rename_i a; cases a <;> rfl)
@[simp] theorem setFlag_cmds (f : Flag) (v : Bool) (s : State) : (s.setFlag f v).cmds = s.cmds := by
  cases f <;> first | rfl | (rename_i a; cases a <;> rfl)
@[simp] theorem setFlag_now (f : Flag) (v : Bool) (s : State) : (s.setFlag f v).now = s.now := by
  cases f <;> first | rfl | (rename_i a; cases a <;> rfl)
@[simp] theorem setFlag_seq (f : Flag) (v : Bool) (s : State) : (s.setFlag f v).seq = s.seq := by
  cases f <;> first | rfl | (rename_i a; cases a <;> rfl)
@[simp] theorem setFlag_queue (f : Flag) (v : Bool) (s : State) : (s.setFlag f v).queue = s.queue := by
  cases f <;> first | rfl | (rename_i a; cases a <;> rfl)
@[simp] theorem setFlag_faults (f : Flag) (v : Bool) (s : State) : (s.setFlag f v).faults = s.faults := by
  cases f <;> first | rfl | (rename_i a; cases a <;> rfl)
@[simp] theorem setFlag_sleeping (f : Flag) (v : Bool) (s : State) : (s.setFlag f v).sleeping = s.sleeping := by
  cases f <;> first | rfl | (rename_i a; cases a <;> rfl)
@[simp] theorem setFlag_firing (f : Flag) (v : Bool) (s : State) : (s.setFlag f v).firing = s.firing := by
  cases f <;> first | rfl | (rename_i a; cases a <;> rfl)
@[simp] theorem setFlag_busDepth (f : Flag) (v : Bool) (s : State) : (s.setFlag f v).busDepth = s.busDepth := by
  cases f <;> first | rfl | (rename_i a; cases a <;> rfl)
@[simp] theorem setFlag_pinDepth (f : Flag) (v : Bool) (s : State) : (s.setFlag f v).pinDepth = s.pinDepth := by
  cases f <;> first | rfl | (rename_i a; cases a <;> rfl)
@[simp] theorem setFlag_out (f : Flag) (v : Bool) (s : State) : (s.setFlag f v).out = s.out := by
  cases f <;> first | rfl | (rename_i a; cases a <;> rfl)
@[simp] theorem setFlag_pins (f : Flag) (v : Bool) (s : State) : (s.setFlag f v).pins = s.pins := by
  cases f <;> first | rfl | (rename_i a; cases a <;> rfl)
@[simp] theorem setFlag_subs (f : Flag) (v : Bool) (s : State) : (s.setFlag f v).subs = s.subs := by
  cases f <;> first | rfl | (rename_i a; cases a <;> rfl)
@[simp] theorem setFlag_osc (f : Flag) (v : Bool) (s : State) : (s.setFlag f v).osc = s.osc := by
  cases f <;> first | rfl | (rename_i a; cases a <;> rfl)
@[simp] theorem setFlag_vin (f : Flag) (v : Bool) (s : State) : (s.setFlag f v).vin = s.vin := by
  cases f <;> first | rfl | (rename_i a; cases a <;> rfl)
@[simp] theorem setFlag_vrefhi (f : Flag) (v : Bool) (s : State) : (s.setFlag f v).vrefhi = s.vrefhi := by
  cases f <;> first | rfl | (rename_i a; cases a <;> rfl)
@[simp] theorem setFlag_vreflo (f : Flag) (v : Bool) (s : State) : (s.setFlag f v).vreflo = s.vreflo := by
  cases f <;> first | rfl | (rename_i a; cases a <;> rfl)
@[simp] theorem setFlag_flag (f : Flag) (v : Bool) (s : State) : (s.setFlag f v).flag f = v := by
  cases f <;> first | rfl | (rename_i a; cases a <;> rfl)

end Sys2Proof.Machine
end

