-- ==== Sys2Proof/Laws/Queue.lean ====
section
/-!
SUPPORT. Laws/Queue.lean: everything that scheduling, cancelling and rescheduling can do to the queue (40_scheduler.md
R131 to R133).
-/

namespace Sys2Proof.Machine

open Sys2Proof

/-! ### The order -/

theorem before_iff (a b : Event) :
    a.before b = true ↔ a.cycle < b.cycle ∨ (a.cycle = b.cycle ∧ a.ins < b.ins) := by
  simp [Event.before]

theorem before_trans {a b c : Event} (h1 : a.before b = true) (h2 : b.before c = true) : a.before c = true := by
  rw [before_iff] at *; omega

theorem before_of_not {a b : Event} (h : a.before b = false) (hi : a.ins ≠ b.ins) : b.before a = true := by
  have h' : ¬ a.before b = true := by simp [h]
  rw [before_iff] at *; omega

/-! ### Insertion -/

@[simp] theorem mem_insertEvent (e x : Event) (l : List Event) : x ∈ insertEvent e l ↔ x = e ∨ x ∈ l := by
  induction l with
  | nil => simp [insertEvent]
  | cons y ys ih => simp only [insertEvent]; split <;> simp_all; tauto

theorem insertEvent_sorted {e : Event} {l : List Event} (hl : l.Pairwise (fun a b => a.before b = true))
    (hi : ∀ x ∈ l, x.ins < e.ins) : (insertEvent e l).Pairwise (fun a b => a.before b = true) := by
  induction l with
  | nil => simp [insertEvent]
  | cons y ys ih =>
    rw [List.pairwise_cons] at hl
    simp only [insertEvent]
    split
    · rename_i hb
      refine List.pairwise_cons.2 ⟨fun x hx => ?_, List.pairwise_cons.2 hl⟩
      rcases List.mem_cons.1 hx with rfl | hx
      · exact hb
      · exact before_trans hb (hl.1 x hx)
    · rename_i hb
      have hy : y.ins < e.ins := hi y (by simp)
      refine List.pairwise_cons.2 ⟨fun x hx => ?_, ih hl.2 (fun x hx => hi x (by simp [hx]))⟩
      rcases (mem_insertEvent e x ys).1 hx with rfl | hx
      · exact before_of_not (by simpa using hb) (by omega)
      · exact hl.1 x hx

theorem insertEvent_distinct {e : Event} {l : List Event} (hl : l.Pairwise (fun a b => a.trig ≠ b.trig))
    (hi : ∀ x ∈ l, x.trig ≠ e.trig) : (insertEvent e l).Pairwise (fun a b => a.trig ≠ b.trig) := by
  induction l with
  | nil => simp [insertEvent]
  | cons y ys ih =>
    rw [List.pairwise_cons] at hl
    simp only [insertEvent]
    split
    · exact List.pairwise_cons.2 ⟨fun x hx => (hi x hx).symm, List.pairwise_cons.2 hl⟩
    · refine List.pairwise_cons.2 ⟨fun x hx => ?_, ih hl.2 (fun x hx => hi x (by simp [hx]))⟩
      rcases (mem_insertEvent e x ys).1 hx with rfl | hx
      · exact hi y (by simp)
      · exact hl.1 x hx

/-! ### Handles -/

/-- A trigger has no handle exactly when no entry of the queue is its own (R23). -/
theorem pending_eq_none (s : State) (t : TrigId) : s.pending t = none ↔ ∀ e ∈ s.queue, e.trig ≠ t := by
  simp [State.pending]

theorem pending_some_mem {s : State} {t : TrigId} {c i : Nat} (h : s.pending t = some (c, i)) :
    (⟨c, i, t⟩ : Event) ∈ s.queue := by
  simp only [State.pending, Option.map_eq_some_iff] at h
  obtain ⟨e, he, hce⟩ := h
  have h1 := List.mem_of_find?_eq_some he
  have h2 := List.find?_some he
  simp only [Prod.mk.injEq] at hce
  obtain ⟨rfl, rfl⟩ := hce
  have : e.trig = t := by simpa using h2
  subst this
  exact h1

@[simp] theorem pending_cancel_same (s : State) (t : TrigId) : (cancel t s).pending t = none := by
  rw [pending_eq_none]; intro e he; simp at he; exact he.2

theorem find?_insertEvent_other (e : Event) (l : List Event) (t : TrigId) (h : e.trig ≠ t) :
    (insertEvent e l).find? (fun x => x.trig == t) = l.find? (fun x => x.trig == t) := by
  induction l with
  | nil => simp [insertEvent, h]
  | cons y ys ih =>
    simp only [insertEvent]
    split
    · simp [List.find?_cons, h]
    · simp only [List.find?_cons]; split <;> simp_all

theorem pending_cancel_other (s : State) {t u : TrigId} (h : u ≠ t) : (cancel t s).pending u = s.pending u := by
  simp only [State.pending, cancel_queue]
  congr 1
  induction s.queue with
  | nil => rfl
  | cons y ys ih =>
    simp only [List.filter_cons]
    by_cases hy : y.trig = t
    · have : y.trig ≠ u := fun h' => h (h' ▸ hy)
      simp [hy, ih, Ne.symm h]
    · simp [hy, List.find?_cons, ih]

theorem pending_enqueue_other (s : State) {t u : TrigId} (c : Nat) (h : u ≠ t) :
    (enqueue t c s).pending u = s.pending u := by
  simp only [State.pending, enqueue_queue]
  rw [find?_insertEvent_other _ _ _ (Ne.symm h)]

theorem find?_insertEvent_same (e : Event) (l : List Event) (h : ∀ x ∈ l, x.trig ≠ e.trig) :
    (insertEvent e l).find? (fun x => x.trig == e.trig) = some e := by
  induction l with
  | nil => simp [insertEvent]
  | cons y ys ih =>
    simp only [insertEvent]
    split
    · simp
    · have hy : y.trig ≠ e.trig := h y (by simp)
      simp [hy, ih (fun x hx => h x (by simp [hx]))]

theorem pending_enqueue_same (s : State) (t : TrigId) (c : Nat) (h : s.pending t = none) :
    (enqueue t c s).pending t = some (c, s.seq) := by
  simp only [State.pending, enqueue_queue]
  rw [find?_insertEvent_same ⟨c, s.seq, t⟩ s.queue ((pending_eq_none s t).1 h)]
  rfl

/-- What `Schedule` can do (R131). -/
theorem schedule_cases (t : TrigId) (c : Nat) (s : State) :
    (s.pending t = none ∧ schedule t c s = enqueue t c s) ∨
      ((s.pending t).isSome = true ∧ schedule t c s = raiseFault .schedDouble s) := by
  unfold schedule
  cases h : s.pending t <;> simp

/-- What `Reschedule` does (R133): never SCHED_DOUBLE. -/
theorem reschedule_eq (t : TrigId) (c : Nat) (s : State) : reschedule t c s = enqueue t c (cancel t s) := by
  simp [reschedule, schedule]

@[simp] theorem pending_reschedule_same (t : TrigId) (c : Nat) (s : State) :
    (reschedule t c s).pending t = some (c, s.seq) := by
  rw [reschedule_eq, pending_enqueue_same _ _ _ (by simp)]; simp

theorem pending_reschedule_other {t u : TrigId} (c : Nat) (s : State) (h : u ≠ t) :
    (reschedule t c s).pending u = s.pending u := by
  rw [reschedule_eq, pending_enqueue_other _ _ h, pending_cancel_other _ h]

/-! ### reschedule, field by field -/

@[simp] theorem reschedule_seq (t : TrigId) (c : Nat) (s : State) : (reschedule t c s).seq = s.seq + 1 := by
  rw [reschedule_eq]; rfl
@[simp] theorem reschedule_cfg (t : TrigId) (c : Nat) (s : State) : (reschedule t c s).cfg = s.cfg := by
  rw [reschedule_eq]; rfl
@[simp] theorem reschedule_cmds (t : TrigId) (c : Nat) (s : State) : (reschedule t c s).cmds = s.cmds := by
  rw [reschedule_eq]; rfl
@[simp] theorem reschedule_now (t : TrigId) (c : Nat) (s : State) : (reschedule t c s).now = s.now := by
  rw [reschedule_eq]; rfl
@[simp] theorem reschedule_faults (t : TrigId) (c : Nat) (s : State) : (reschedule t c s).faults = s.faults := by
  rw [reschedule_eq]; rfl
@[simp] theorem reschedule_sleeping (t : TrigId) (c : Nat) (s : State) : (reschedule t c s).sleeping = s.sleeping := by
  rw [reschedule_eq]; rfl
@[simp] theorem reschedule_firing (t : TrigId) (c : Nat) (s : State) : (reschedule t c s).firing = s.firing := by
  rw [reschedule_eq]; rfl
@[simp] theorem reschedule_busDepth (t : TrigId) (c : Nat) (s : State) : (reschedule t c s).busDepth = s.busDepth := by
  rw [reschedule_eq]; rfl
@[simp] theorem reschedule_pinDepth (t : TrigId) (c : Nat) (s : State) : (reschedule t c s).pinDepth = s.pinDepth := by
  rw [reschedule_eq]; rfl
@[simp] theorem reschedule_out (t : TrigId) (c : Nat) (s : State) : (reschedule t c s).out = s.out := by
  rw [reschedule_eq]; rfl
@[simp] theorem reschedule_pins (t : TrigId) (c : Nat) (s : State) : (reschedule t c s).pins = s.pins := by
  rw [reschedule_eq]; rfl
@[simp] theorem reschedule_subs (t : TrigId) (c : Nat) (s : State) : (reschedule t c s).subs = s.subs := by
  rw [reschedule_eq]; rfl
@[simp] theorem reschedule_t0 (t : TrigId) (c : Nat) (s : State) : (reschedule t c s).t0 = s.t0 := by
  rw [reschedule_eq]; rfl
@[simp] theorem reschedule_t1 (t : TrigId) (c : Nat) (s : State) : (reschedule t c s).t1 = s.t1 := by
  rw [reschedule_eq]; rfl
@[simp] theorem reschedule_t2 (t : TrigId) (c : Nat) (s : State) : (reschedule t c s).t2 = s.t2 := by
  rw [reschedule_eq]; rfl
@[simp] theorem reschedule_t4 (t : TrigId) (c : Nat) (s : State) : (reschedule t c s).t4 = s.t4 := by
  rw [reschedule_eq]; rfl
@[simp] theorem reschedule_t6 (t : TrigId) (c : Nat) (s : State) : (reschedule t c s).t6 = s.t6 := by
  rw [reschedule_eq]; rfl
@[simp] theorem reschedule_ccp1 (t : TrigId) (c : Nat) (s : State) : (reschedule t c s).ccp1 = s.ccp1 := by
  rw [reschedule_eq]; rfl
@[simp] theorem reschedule_ccp2 (t : TrigId) (c : Nat) (s : State) : (reschedule t c s).ccp2 = s.ccp2 := by
  rw [reschedule_eq]; rfl
@[simp] theorem reschedule_osc (t : TrigId) (c : Nat) (s : State) : (reschedule t c s).osc = s.osc := by
  rw [reschedule_eq]; rfl
@[simp] theorem reschedule_clc1 (t : TrigId) (c : Nat) (s : State) : (reschedule t c s).clc1 = s.clc1 := by
  rw [reschedule_eq]; rfl
@[simp] theorem reschedule_clc2 (t : TrigId) (c : Nat) (s : State) : (reschedule t c s).clc2 = s.clc2 := by
  rw [reschedule_eq]; rfl
@[simp] theorem reschedule_clc3 (t : TrigId) (c : Nat) (s : State) : (reschedule t c s).clc3 = s.clc3 := by
  rw [reschedule_eq]; rfl
@[simp] theorem reschedule_clc4 (t : TrigId) (c : Nat) (s : State) : (reschedule t c s).clc4 = s.clc4 := by
  rw [reschedule_eq]; rfl
@[simp] theorem reschedule_nco (t : TrigId) (c : Nat) (s : State) : (reschedule t c s).nco = s.nco := by
  rw [reschedule_eq]; rfl
@[simp] theorem reschedule_adc (t : TrigId) (c : Nat) (s : State) : (reschedule t c s).adc = s.adc := by
  rw [reschedule_eq]; rfl
@[simp] theorem reschedule_vin (t : TrigId) (c : Nat) (s : State) : (reschedule t c s).vin = s.vin := by
  rw [reschedule_eq]; rfl
@[simp] theorem reschedule_vrefhi (t : TrigId) (c : Nat) (s : State) : (reschedule t c s).vrefhi = s.vrefhi := by
  rw [reschedule_eq]; rfl
@[simp] theorem reschedule_vreflo (t : TrigId) (c : Nat) (s : State) : (reschedule t c s).vreflo = s.vreflo := by
  rw [reschedule_eq]; rfl
@[simp] theorem reschedule_tm (t : TrigId) (c : Nat) (s : State) (y : T2Id) : (reschedule t c s).tm y = s.tm y := by
  rw [reschedule_eq]; simp
@[simp] theorem reschedule_ccp (t : TrigId) (c : Nat) (s : State) (j : CcpId) : (reschedule t c s).ccp j = s.ccp j := by
  rw [reschedule_eq]; simp
@[simp] theorem reschedule_clc (t : TrigId) (c : Nat) (s : State) (d : ClcId) : (reschedule t c s).clc d = s.clc d := by
  rw [reschedule_eq]; simp
@[simp] theorem reschedule_subsOf (t : TrigId) (c : Nat) (s : State) (k : ChanKind) :
    (reschedule t c s).subsOf k = s.subsOf k := by
  rw [reschedule_eq]; rfl

/-! ### The queue keeps its structure -/

theorem queueOk_cancel {s : State} (t : TrigId) (h : s.queueOk) : (cancel t s).queueOk := by
  obtain ⟨h1, h2, h3⟩ := h
  exact ⟨h1.filter _, h2.filter _, fun e he => h3 e (List.mem_filter.1 he).1⟩

theorem queueOk_enqueue {s : State} {t : TrigId} (c : Nat) (hp : s.pending t = none) (h : s.queueOk) :
    (enqueue t c s).queueOk := by
  obtain ⟨h1, h2, h3⟩ := h
  refine ⟨insertEvent_sorted h1 h3, insertEvent_distinct h2 ((pending_eq_none s t).1 hp), fun e he => ?_⟩
  simp only [enqueue_queue, mem_insertEvent] at he
  simp only [enqueue_seq]
  rcases he with rfl | he
  · exact Nat.lt_succ_self _
  · exact Nat.lt_succ_of_lt (h3 e he)

theorem queueOk_raiseFault {s : State} (k : FaultKind) (h : s.queueOk) : (raiseFault k s).queueOk := h

theorem queueOk_schedule {s : State} (t : TrigId) (c : Nat) (h : s.queueOk) : (schedule t c s).queueOk := by
  rcases schedule_cases t c s with ⟨hp, e⟩ | ⟨_, e⟩ <;> rw [e]
  · exact queueOk_enqueue c hp h
  · exact h

theorem queueOk_reschedule {s : State} (t : TrigId) (c : Nat) (h : s.queueOk) : (reschedule t c s).queueOk :=
  queueOk_schedule t c (queueOk_cancel t h)

/-- A queue that stands, with the insertion counter, as it stood. -/
theorem queueOk_of_eq {s t : State} (hq : t.queue = s.queue) (hs : t.seq = s.seq) (h : s.queueOk) : t.queueOk := by
  unfold State.queueOk at *; rw [hq, hs]; exact h

theorem pending_of_eq {s t : State} (hq : t.queue = s.queue) (u : TrigId) : t.pending u = s.pending u := by
  unfold State.pending; rw [hq]

end Sys2Proof.Machine
end

