-- ==== Sys2Proof/Laws/Quiet.lean ====
section
/-!
SUPPORT. Laws/Quiet.lean: what a signal does where it meets no listener or only the host's, and what a STEP does where
one event is due.
-/

namespace Sys2Proof.Machine

open Sys2Proof

/-! ### Pins -/

/-- A command on a pin of the block has its effect. -/
theorem onPin_present {p : PinIx} {s t : State} (h : p.val < s.cfg.nPin) : onPin p s t = .next t := by
  rw [onPin, if_pos h]

/-- A command on a pin that the block does not have is illegal (R105). -/
theorem onPin_absent {p : PinIx} {s t : State} (h : s.cfg.nPin ≤ p.val) :
    onPin p s t = .next (raiseFault .illegalCmd s) := by
  rw [onPin, if_neg (by omega)]

theorem mem_allPins {s : State} {p : PinIx} : p ∈ s.allPins ↔ p.val < s.cfg.nPin := by simp [State.allPins]

/-- `PinDrive` of a pin with no sink: the level is recomputed, and recorded if it changed (R175). -/
theorem drive_no_sink (p : PinIx) (s : State) (m : Pin) (hm : m.sinks = []) (hd : s.pinDepth < s.cfg.busDepthMax) :
    signal (.drive p) (s.setPin p m) =
      { s with
        pins := s.pins.set p { m with lvl := pinObservable s m }
        out := if pinObservable s m = m.lvl then s.out else s.out ++ [.pin p (pinObservable s m) s.now.toNat] } := by
  have ho : pinObservable (s.setPin p m) m = pinObservable s m := by
    have h1 : ∀ k, ctlOut (s.setPin p m) k = ctlOut s k := by intro k; cases k <;> simp [ctlOut]
    have h2 : ∀ k, srcLevel (s.setPin p m) k = srcLevel s k := by intro k; cases k <;> simp [srcLevel]
    unfold pinObservable pinOwnDrive
    rcases m.src with _ | a <;> rcases m.ctl with _ | k <;> simp only [h1, h2]
  have hg : (s.setPin p m).pins[p] = m := by simp [State.setPin]
  show pinDriveWith _ p (s.setPin p m) = _
  simp only [pinDriveWith, hg, ho]
  by_cases hn : pinObservable s m = m.lvl
  · rw [if_pos hn, if_pos hn, hn]; rfl
  · rw [if_neg hn, if_neg (by simp; omega), if_neg hn]
    simp [hm, State.setPin, emit, State.cycle]

/-- No pin is picked: nothing is driven. -/
theorem driveWhere_none (w : Wire) (pred : Pin → Bool) (s : State) (h : ∀ p : PinIx, pred s.pins[p] = false) :
    driveWhere w pred s = s := by
  have : ∀ l : List PinIx, l.foldl (fun s p => if pred s.pins[p] then w (.drive p) s else s) s = s := by
    intro l
    induction l with
    | nil => rfl
    | cons p l ih => rw [List.foldl_cons, h p]; exact ih
  exact this _

/-! ### The bus -/

/-- `Publish` to hosts alone: one record each, in attach order (R182, R184). -/
theorem publish_hosts (k : ChanKind) (b v : Nat) (s : State) (hd : s.busDepth < s.cfg.busDepthMax)
    (hr : s.hostsOnly k) :
    signal (.publish k b v) s = { s with out := s.out ++ s.heard k b v s.now.toNat } := by
  have key : ∀ (w : Wire) (l : List RecvId) (s : State), (∀ r ∈ l, r ∈ s.subsOf k ∧ r.isHost = true) →
      l.foldl (fun s r => if (s.subsOf k).contains r then deliver w r k b v s else s) s =
        { s with out := s.out ++ l.map (fun r => .recv r k b v s.now.toNat) } := by
    intro w l
    induction l with
    | nil => intro s _; simp
    | cons r l ih =>
      intro s h
      have h1 := h r (by simp)
      have hdel : deliver w r k b v s = emit (.recv r k b v s.cycle) s := by
        cases r with
        | host j => rfl
        | _ => simp [RecvId.isHost] at h1
      rw [List.foldl_cons, if_pos (List.contains_iff_mem.2 h1.1), hdel, ih (emit (.recv r k b v s.cycle) s) (fun r' hr' => h r' (by simp [hr']))]
      simp [emit, State.cycle]
  show publishWith _ _ _ _ _ = _
  unfold publishWith
  rw [if_neg (by omega)]
  simp only
  rw [key _ (s.subsOf k) { s with busDepth := s.busDepth + 1 } (fun r hr' => ⟨hr', hr r hr'⟩)]
  simp; rfl

/-! ### Steps -/

theorem nextDue_none {s : State} (h : ∀ e ∈ s.queue, s.now.toNat < e.cycle) : nextDue s = none := by
  unfold nextDue
  split
  · rfl
  · rename_i e r hq
    exact if_neg (by have := h e (by simp [hq]); unfold State.cycle; omega)

/-- With nothing due `Advance` changes nothing. -/
theorem advance_none {s : State} (h : ∀ e ∈ s.queue, s.now.toNat < e.cycle) : advance s = .next s :=
  advance_next_iff.2 ⟨0, advanceLoop_idle (nextDue_none h) 0⟩

theorem now_succ {s : State} (h : s.now ≠ BitVec.allOnes 64) : (s.now + 1).toNat = s.now.toNat + 1 := by
  have h1 : s.now.toNat ≠ 2 ^ 64 - 1 := fun e => h (BitVec.eq_of_toNat_eq (by rw [e]; decide))
  have h2 := s.now.isLt
  rw [BitVec.toNat_add]; simp; omega

/-- A STEP on which one event is due, whose callback leaves nothing due at the new cycle. -/
theorem step_one {s : State} {t : TrigId} {rest : List Event} (h : s.dueNext t rest) {u : State}
    (hu : { callback t { s with now := s.now + 1, queue := rest, firing := some (t, s.now.toNat + 1) } with
      firing := none } = u)
    (hq : ∀ e ∈ u.queue, u.now.toNat < e.cycle) : exec .step s = .next u := by
  obtain ⟨hi, hn, ⟨k, hk⟩, hr⟩ := h
  show stepCycle s = _
  have h0 : nextDue { s with now := s.now + 1 } = some (⟨s.now.toNat + 1, k, t⟩, rest) := by
    simp only [nextDue, hk, State.cycle, now_succ hn]; simp
  have h1 : fireEvent ⟨s.now.toNat + 1, k, t⟩ rest { s with now := s.now + 1 } = u := hu
  simp only [stepCycle, hn, if_false]
  exact advance_next_iff.2 ⟨1, by rw [advanceLoop_fire h0, h1, advanceLoop_idle (nextDue_none hq)]⟩

/-! ### Rescheduling -/

theorem mem_reschedule (t : TrigId) (c : Nat) (s : State) (e : Event) :
    e ∈ (reschedule t c s).queue ↔ e = ⟨c, s.seq, t⟩ ∨ (e ∈ s.queue ∧ e.trig ≠ t) := by
  rw [reschedule_eq]; simp [enqueue, cancel]

/-- A reschedule as an update of the queue and the insertion counter. -/
theorem reschedule_with (t : TrigId) (c : Nat) (s : State) :
    reschedule t c s = { s with
      queue := insertEvent ⟨c, s.seq, t⟩ (s.queue.filter (fun e => e.trig != t)), seq := s.seq + 1 } := by
  rw [reschedule_eq]; rfl

end Sys2Proof.Machine
end

