-- ==== Sys2Proof/Laws/Signalled.lean ====
section
/-!
SUPPORT. Laws/Signalled.lean: everything that a pin change or a bus delivery can do (`Signalled`), for each operation the
wire reaches, and for the wire itself (41_pins_bus.md R175, R179, R182, R184).
-/

namespace Sys2Proof.Machine

open Sys2Proof

theorem Signalled.refl (s : State) : Signalled s s :=
  ⟨rfl, ⟨[], by simp⟩, fun _ h => h, fun _ _ => rfl, id, fun _ _ => rfl⟩

theorem Signalled.trans {s t u : State} (a : Signalled s t) (b : Signalled t u) : Signalled s u := by
  obtain ⟨l1, h1⟩ := a.log
  obtain ⟨l2, h2⟩ := b.log
  exact ⟨b.config.trans a.config, ⟨l1 ++ l2, by rw [h2, h1, List.append_assoc]⟩,
    fun k h => b.sticky k (a.sticky k h), fun k h => (b.onlyDepth k h).trans (a.onlyDepth k h),
    b.queueOk ∘ a.queueOk, fun tr h => (b.steady tr h).trans (a.steady tr h)⟩

theorem Signalled.after {s t u : State} (b : Signalled t u) (a : Signalled s t) : Signalled s u := a.trans b

/-- A change of blanked fields alone. -/
theorem Signalled.quiet {s t : State} (hc : t.config = s.config) (ho : t.out = s.out) (hf : t.faults = s.faults)
    (hq : t.queue = s.queue) (hs : t.seq = s.seq) : Signalled s t :=
  ⟨hc, ⟨[], by simp [ho]⟩, fun _ h => by rw [hf]; exact h, fun _ _ => by rw [hf], queueOk_of_eq hq hs,
    fun tr _ => pending_of_eq hq tr⟩

/-! ### Setters -/

theorem config_setTm {s : State} {x : T2Id} {u : Timer2} (h : u.config = (s.tm x).config) :
    (s.setTm x u).config = s.config := by
  cases x <;> simp_all [State.config, State.setTm, State.tm]

theorem config_setCcp {s : State} {i : CcpId} {u : Ccp} (h : u.config = (s.ccp i).config) :
    (s.setCcp i u).config = s.config := by
  cases i <;> simp_all [State.config, State.setCcp, State.ccp]

theorem config_setClc {s : State} {n : ClcId} {c : Clc} (h : c.config = (s.clc n).config) :
    (s.setClc n c).config = s.config := by
  cases n <;> simp_all [State.config, State.setClc, State.clc]

theorem config_setPin_lvl (s : State) (p : PinIx) (l : Level) :
    (s.setPin p { s.pins[p] with lvl := l }).config = s.config := by
  have : (s.pins.set p { s.pins[p] with lvl := l }).map Pin.config = s.pins.map Pin.config := by
    apply Vector.ext
    intro j hj
    by_cases h : (p : Nat) = j
    · subst h; simp [Pin.config]
    · simp [h]
  simp only [State.config, State.setPin, this]

theorem sig_setTm {s : State} {x : T2Id} {u : Timer2} (h : u.config = (s.tm x).config) : Signalled s (s.setTm x u) :=
  .quiet (config_setTm h) (by simp) (by simp) (by simp) (by simp)

theorem sig_setCcp {s : State} {i : CcpId} {u : Ccp} (h : u.config = (s.ccp i).config) : Signalled s (s.setCcp i u) :=
  .quiet (config_setCcp h) (by simp) (by simp) (by simp) (by simp)

theorem sig_setClc {s : State} {n : ClcId} {c : Clc} (h : c.config = (s.clc n).config) : Signalled s (s.setClc n c) :=
  .quiet (config_setClc h) (by simp) (by simp) (by simp) (by simp)

/-! ### Log, faults, queue -/

theorem sig_emit (r : OutRec) (s : State) : Signalled s (emit r s) :=
  ⟨rfl, ⟨[r], rfl⟩, fun _ h => h, fun _ _ => rfl, id, fun _ _ => rfl⟩

theorem has_add (f : FaultSet) (k j : FaultKind) : (f.add k).has j = (f.has j || decide (j = k)) := by
  cases k <;> cases j <;> simp [FaultSet.add, FaultSet.has]

theorem sig_busDepth (s : State) : Signalled s (raiseFault .busDepth s) :=
  ⟨rfl, ⟨[], by simp⟩, fun k h => by simp [has_add, h], fun k h => by simp [has_add, h], id, fun _ _ => rfl⟩

theorem sig_cancel {t : TrigId} (ht : steadyTrigger t = false) (s : State) : Signalled s (cancel t s) :=
  ⟨rfl, ⟨[], by simp⟩, fun _ h => h, fun _ _ => rfl, queueOk_cancel t, fun u hu =>
    pending_cancel_other s (by rintro rfl; simp [ht] at hu)⟩

theorem sig_reschedule {t : TrigId} (ht : steadyTrigger t = false) (c : Nat) (s : State) :
    Signalled s (reschedule t c s) :=
  ⟨by rw [reschedule_eq]; rfl, ⟨[], by simp⟩, fun _ h => by simpa using h, fun _ _ => by simp,
    queueOk_reschedule t c, fun u hu => pending_reschedule_other c s (by rintro rfl; simp [ht] at hu)⟩

/-- The flags a signal can raise: those of the edge-clocked counters, the CCP units, the cells and the NCO. -/
def signalFlag : Flag → Bool
  | .tmr0 | .tmr1 | .ccp _ | .clc _ | .nco => true
  | .tmrx _ | .adc => false

theorem sig_raiseIF {f : Flag} (hf : signalFlag f = true) (s : State) : Signalled s (raiseIF f s) := by
  refine Signalled.trans (t := s.setFlag f true) ?_ (sig_emit _ _)
  refine .quiet ?_ (by simp) (by simp) (by simp) (by simp)
  cases f with
  | tmr0 => rfl
  | tmr1 => rfl
  | tmrx x => simp [signalFlag] at hf
  | ccp i => exact config_setCcp rfl
  | clc n => exact config_setClc rfl
  | nco => rfl
  | adc => simp [signalFlag] at hf

theorem foldl_signalled {α : Type} (f : State → α → State) (l : List α) (h : ∀ s a, Signalled s (f s a)) (s : State) :
    Signalled s (l.foldl f s) := by
  induction l generalizing s with
  | nil => exact .refl s
  | cons a l ih => exact (h s a).trans (ih _)

/-! ### Timer1 -/

theorem sig_t0 {s : State} {u : Timer0} (h : u.config = s.t0.config) : Signalled s { s with t0 := u } :=
  .quiet (by simp only [State.config, h]) rfl rfl rfl rfl

theorem sig_t1 {s : State} {u : Timer1} (h : u.config = s.t1.config) : Signalled s { s with t1 := u } :=
  .quiet (by simp only [State.config, h]) rfl rfl rfl rfl

theorem sig_nco {s : State} {u : Nco} (h : u.config = s.nco.config) : Signalled s { s with nco := u } :=
  .quiet (by simp only [State.config, h]) rfl rfl rfl rfl

theorem sig_adc {s : State} {u : Adc} (h : u.config = s.adc.config) : Signalled s { s with adc := u } :=
  .quiet (by simp only [State.config, h]) rfl rfl rfl rfl

theorem sig_t1Recompute (s : State) : Signalled s (t1Recompute s) := by
  unfold t1Recompute
  dsimp only
  split
  · exact (sig_reschedule (by rfl) _ _).after (sig_t1 (by rfl))
  · exact (sig_cancel (by rfl) _).after (sig_t1 (by rfl))

theorem sig_t1Update (v : Half) (s : State) : Signalled s (t1Update v s) := by
  unfold t1Update
  split <;> exact (sig_t1Recompute _).after (sig_t1 (by rfl))

theorem sig_t1Clear (s : State) : Signalled s (t1Clear s) := by
  unfold t1Clear
  split <;> exact (sig_t1Recompute _).after (sig_t1 (by rfl))

theorem sig_t1GateLevelInput (l : Level) (s : State) : Signalled s (t1GateLevelInput l s) := by
  unfold t1GateLevelInput
  split
  · exact .refl s
  · exact (sig_t1Update _ _).after (sig_t1 (by rfl))

theorem sig_t1GateEventInput (s : State) : Signalled s (t1GateEventInput s) :=
  (sig_t1Update _ _).after (sig_t1 (by rfl))

theorem sig_t1GateSink (p : PinIx) (l : Level) (s : State) : Signalled s (t1GateSink p l s) := by
  unfold t1GateSink
  split
  · exact sig_t1GateLevelInput _ s
  · exact .refl s

theorem sig_t1GateRecv (k : ChanKind) (sub v : Nat) (s : State) : Signalled s (t1GateRecv k sub v s) := by
  unfold t1GateRecv
  split
  · split
    · exact sig_t1GateEventInput s
    · exact sig_t1GateLevelInput _ s
  · exact .refl s

/-! ### Timer2 family -/

theorem sig_t2Place (b : Bool) (x : T2Id) (s : State) : Signalled s (t2Place b x s) := by
  unfold t2Place
  dsimp only
  split
  · exact (sig_reschedule (by rfl) _ _).after (sig_setTm (by rfl))
  · exact (sig_cancel (by rfl) _).after (sig_setTm (by rfl))

theorem sig_t2Recompute (x : T2Id) (s : State) : Signalled s (t2Recompute x s) := sig_t2Place _ _ _

theorem sig_t2Update (x : T2Id) (v : Byte) (s : State) : Signalled s (t2Update x v s) := by
  unfold t2Update
  dsimp only
  split <;> exact (sig_t2Recompute _ _).after (sig_setTm (by rfl))

theorem sig_t2ArmLevel (x : T2Id) (s : State) : Signalled s (t2ArmLevel x s) := by
  unfold t2ArmLevel
  dsimp only
  split
  · exact sig_setTm (by rfl)
  · exact .refl s

theorem sig_t2ErsInput (x : T2Id) (e : Level) (s : State) : Signalled s (t2ErsInput x e s) := by
  unfold t2ErsInput
  dsimp only
  split
  · exact .refl s
  · exact (sig_t2Update _ _ _).after ((sig_t2ArmLevel _ _).after (sig_setTm (by rfl)))

theorem sig_t2RstSink (x : T2Id) (p : PinIx) (l : Level) (s : State) : Signalled s (t2RstSink x p l s) := by
  unfold t2RstSink
  split
  · exact sig_t2ErsInput _ _ s
  · exact .refl s

theorem sig_t2RstRecv (x : T2Id) (k : ChanKind) (sub v : Nat) (s : State) : Signalled s (t2RstRecv x k sub v s) := by
  unfold t2RstRecv
  split
  · split
    · exact (sig_t2ErsInput _ _ _).after (sig_t2ErsInput _ _ s)
    · exact sig_t2ErsInput _ _ s
  · exact .refl s

/-! ### ADC -/

theorem setBit_and (b : Byte) (v : Bool) : setBit b 1 v &&& 0xFD = b &&& 0xFD := by
  revert b v; decide +kernel

theorem sig_setGo (v : Bool) (s : State) : Signalled s (setGo v s) :=
  sig_adc (by simp only [Adc.config, setBit_and])

theorem sig_adcStart (s : State) : Signalled s (adcStart s) := by
  unfold adcStart
  dsimp only
  split
  · exact .refl s
  · split
    · refine Signalled.after (sig_reschedule (by rfl) _ _) (Signalled.after ?_ (sig_setGo true s))
      exact .quiet rfl rfl rfl rfl rfl
    · exact (sig_emit _ _).after (sig_setGo false s)

theorem preStep_config (p : Prescaler) : (preStep p).1.config = p.config := by unfold preStep; split <;> rfl

/-! ### With a wire below -/

section
variable {w : Wire} (hw : ∀ x s, Signalled s (w x s))
include hw

theorem sig_driveWhere (pred : Pin → Bool) (s : State) : Signalled s (driveWhere w pred s) :=
  foldl_signalled _ _ (fun s p => by split <;> [exact hw _ s; exact .refl s]) s

theorem sig_t0Edge (old new : Level) (s : State) : Signalled s (t0Edge w old new s) := by
  have hp : ∀ h : Byte, ({ s.t0 with pre := (preStep s.t0.pre).1, held := h } : Timer0).config = s.t0.config := by
    intro h; simp only [Timer0.config, preStep_config]
  have h1 : ∀ h, Signalled s { s with t0 := { s.t0 with pre := (preStep s.t0.pre).1, held := h } } :=
    fun h => sig_t0 (hp h)
  unfold t0Edge
  dsimp only
  generalize (if t0Se s.t0.con = true then isFalling old new else isRising old new) = edge
  split
  · split
    · split
      · exact (hw _ _).after ((sig_raiseIF (f := .tmr0) rfl _).after (h1 _))
      · exact h1 _
    · exact h1 _
  · exact .refl s

theorem sig_refreshOutput (i : CcpId) (s : State) (k : Fin 4) : Signalled s (refreshOutput w i s k) := by
  unfold refreshOutput
  dsimp only
  split
  · exact .refl s
  · split
    · exact (sig_driveWhere hw _ _).after (sig_setCcp (by rfl))
    · exact (hw _ _).after ((sig_driveWhere hw _ _).after (sig_setCcp (by rfl)))

theorem sig_refresh (i : CcpId) (s : State) : Signalled s (refresh w i s) :=
  foldl_signalled _ _ (sig_refreshOutput hw i) s

end

theorem sig_setOutput (i : CcpId) (k : Fin 4) (l : Level) (s : State) : Signalled s (setOutput i k l s) :=
  sig_setCcp (by rfl)

theorem sig_setOutputs (i : CcpId) (l : Vector Level 4) (s : State) : Signalled s (setOutputs i l s) :=
  sig_setCcp (by rfl)

theorem sig_rise (i : CcpId) (k : Fin 4) (s : State) : Signalled s (rise i k s) := by
  unfold rise
  dsimp only
  split
  · exact (sig_cancel (by rfl) _).after ((sig_setOutput _ _ _ _).after (sig_setCcp (by rfl)))
  · exact (sig_reschedule (by rfl) _ _).after (sig_setCcp (by rfl))

theorem sig_idleOutputs (i : CcpId) (s : State) : Signalled s (idleOutputs i s) := by
  unfold idleOutputs
  split
  · exact sig_setOutput _ _ _ s
  · exact sig_setOutputs _ _ s
  · exact sig_setOutputs _ _ s
  · exact (sig_setOutput _ _ _ _).after (sig_setOutput _ _ _ s)

theorem sig_shutdownCcp (i : CcpId) (s : State) : Signalled s (shutdownCcp i s) := by
  have h1 : Signalled s (s.setCcp i { s.ccp i with shutdown := true }) := sig_setCcp (by rfl)
  unfold shutdownCcp
  dsimp only
  split
  · exact (sig_t2Recompute _ _).after ((sig_idleOutputs _ _).after ((sig_setCcp (by rfl)).after ((sig_cancel (by rfl) _).after h1)))
  · exact (sig_setCcp (by rfl)).after ((sig_cancel (by rfl) _).after h1)

theorem setBit7_and (b : Byte) (v : Bool) : setBit b 7 v &&& 0x7F = b &&& 0x7F := by
  revert b v; decide +kernel

theorem sig_storeAse (i : CcpId) (s : State) : Signalled s (storeAse i s) :=
  sig_setCcp (by simp only [Ccp.config, setBit7_and])

theorem sig_captureSink (i : CcpId) (old new : Level) (s : State) : Signalled s (captureSink i old new s) := by
  unfold captureSink
  dsimp only
  split
  · split
    · exact (sig_raiseIF (by rfl) _).after (sig_setCcp (by simp only [Ccp.config, preStep_config]))
    · exact sig_setCcp (by simp only [Ccp.config, preStep_config])
  · exact .refl s

theorem sig_compareAction (i : CcpId) (s : State) : Signalled s (compareAction i s) := by
  unfold compareAction
  split
  · exact sig_setOutput _ _ _ s
  · exact sig_setOutput _ _ _ s
  · exact sig_setOutput _ _ _ s
  · exact (sig_reschedule (by rfl) _ _).after (sig_setOutput _ _ _ s)
  · exact sig_adcStart s
  · exact .refl s

section
variable {w : Wire} (hw : ∀ x s, Signalled s (w x s))
include hw

theorem sig_setMod (i : CcpId) (m : Level) (s : State) : Signalled s (setMod w i m s) := by
  have h : Signalled s (s.setCcp i { s.ccp i with mod := m }) := sig_setCcp (by rfl)
  unfold setMod
  dsimp only
  refine (sig_refresh hw i _).after ?_
  split
  · exact (sig_setOutput _ _ _ _).after h
  · exact (sig_setOutputs _ _ _).after h
  · exact (sig_setOutputs _ _ _).after h
  · split
    · exact h
    · split
      · exact (sig_rise _ _ _).after ((sig_setOutput _ _ _ _).after h)
      · exact (sig_rise _ _ _).after ((sig_setOutput _ _ _ _).after h)

theorem sig_asActivate (i : CcpId) (s : State) : Signalled s (asActivate w i s) := by
  unfold asActivate
  split
  · exact .refl s
  · exact (sig_refresh hw i _).after ((sig_storeAse i _).after (sig_shutdownCcp i s))

theorem sig_asLevelInput (i : CcpId) (l : Level) (s : State) : Signalled s (asLevelInput w i l s) := by
  unfold asLevelInput
  dsimp only
  split
  · exact (sig_asActivate hw _ _).after (sig_setCcp (by rfl))
  · exact sig_setCcp (by rfl)

theorem sig_asSink (i : CcpId) (p : PinIx) (l : Level) (s : State) : Signalled s (asSink w i p l s) := by
  unfold asSink
  split
  · exact sig_asLevelInput hw _ _ s
  · exact .refl s

theorem sig_asRecv (i : CcpId) (k : ChanKind) (sub v : Nat) (s : State) : Signalled s (asRecv w i k sub v s) := by
  unfold asRecv
  split
  · split
    · exact sig_asActivate hw _ s
    · exact sig_asLevelInput hw _ _ s
  · exact .refl s

theorem sig_compareMatch (i : CcpId) (s : State) : Signalled s (compareMatch w i s) := by
  have h : Signalled s (raiseIF (.ccp i) (refresh w i (compareAction i s))) :=
    (sig_raiseIF (by rfl) _).after ((sig_refresh hw i _).after (sig_compareAction i s))
  unfold compareMatch
  dsimp only
  split
  · exact (sig_t1Clear _).after h
  · exact h

theorem sig_t1Rollover (s : State) : Signalled s (t1Rollover w s) := (hw _ _).after (sig_raiseIF (by rfl) s)

theorem sig_t1Edge (k : SinkId) (old new : Level) (s : State) : Signalled s (t1Edge w k old new s) := by
  have hp : ∀ h : Half, ({ s.t1 with pre := (preStep s.t1.pre).1, held := h } : Timer1).config = s.t1.config := by
    intro h; simp only [Timer1.config, preStep_config]
  have h1 : ∀ h, Signalled s { s with t1 := { s.t1 with pre := (preStep s.t1.pre).1, held := h } } :=
    fun h => sig_t1 (hp h)
  unfold t1Edge
  dsimp only
  split
  · split
    · refine Signalled.after (foldl_signalled _ _ (fun s e => ?_) _) ?_
      · split
        · exact sig_compareMatch hw _ s
        · exact .refl s
      · split
        · exact (sig_t1Rollover hw _).after (h1 _)
        · exact h1 _
    · exact h1 _
  · exact .refl s

theorem sig_ncoOutput (s : State) : Signalled s (ncoOutput w s) := by
  unfold ncoOutput
  dsimp only
  split
  · exact .refl s
  · exact (hw _ _).after ((sig_driveWhere hw _ _).after (sig_nco (by rfl)))

theorem sig_ncoOverflow (c : Nat) (s : State) : Signalled s (ncoOverflow w c s) := by
  have h := sig_raiseIF (f := .nco) rfl s
  unfold ncoOverflow
  dsimp only
  refine (sig_ncoOutput hw _).after ?_
  split
  · split
    · exact (sig_reschedule (by rfl) _ _).after ((sig_nco (by rfl)).after h)
    · exact (sig_nco (by rfl)).after h
  · exact (sig_nco (by rfl)).after h

theorem sig_ncoPulseStep (s : State) : Signalled s (ncoPulseStep w s) := by
  unfold ncoPulseStep
  dsimp only
  split
  · exact .refl s
  · split
    · exact (sig_ncoOutput hw _).after (sig_nco (by rfl))
    · exact sig_nco (by rfl)

theorem sig_ncoClockEdge (cks : Nat) (s : State) : Signalled s (ncoClockEdge w cks s) := by
  unfold ncoClockEdge
  dsimp only
  split
  · split
    · exact (sig_ncoOverflow hw _ _).after ((sig_nco (by rfl)).after (sig_ncoPulseStep hw s))
    · exact (sig_nco (by rfl)).after (sig_ncoPulseStep hw s)
  · exact .refl s

theorem sig_ncoClkSink (old new : Level) (s : State) : Signalled s (ncoClkSink w old new s) := by
  unfold ncoClkSink
  split
  · exact sig_ncoClockEdge hw _ s
  · exact .refl s

theorem sig_clcEvaluate (n : ClcId) (s : State) : Signalled s (clcEvaluate w n s) := by
  have hc : (clcCompute (s.clc n)).2.config = (s.clc n).config := by unfold clcCompute; split <;> rfl
  have h1 : Signalled s (s.setClc n (clcCompute (s.clc n)).2) := sig_setClc hc
  unfold clcEvaluate
  dsimp only
  split
  · exact h1
  · generalize (clcCompute (s.clc n)).2 = c at *
    have h2 : Signalled s ((s.setClc n c).setClc n { c with out := (clcCompute (s.clc n)).1 }) :=
      Signalled.after (sig_setClc (by simp [Clc.config])) h1
    have h3 := Signalled.after (sig_driveWhere hw (fun m => m.src == some (.clc n)) _) h2
    have key : ∀ t, Signalled s t → ∀ b, Signalled s (w (.publish .clcOut (n.idx + 1) b) t) :=
      fun t h b => (hw _ _).after h
    split
    · exact (sig_ncoClockEdge hw _ _).after (key _ (by split <;> [exact (sig_raiseIF (by rfl) _).after h3; exact h3]) _)
    · exact key _ (by split <;> [exact (sig_raiseIF (by rfl) _).after h3; exact h3]) _

theorem sig_clcInput (n : ClcId) (y : Fin 4) (l : Level) (s : State) : Signalled s (clcInput w n y l s) :=
  (sig_clcEvaluate hw _ _).after (sig_setClc (by rfl))

theorem sig_clcSink (n : ClcId) (y : Fin 4) (p : PinIx) (l : Level) (s : State) : Signalled s (clcSink w n y p l s) := by
  unfold clcSink
  split
  · exact sig_clcInput hw _ _ _ s
  · exact .refl s

theorem sig_clcRecv (n : ClcId) (y : Fin 4) (k : ChanKind) (sub v : Nat) (s : State) :
    Signalled s (clcRecv w n y k sub v s) := by
  unfold clcRecv
  split
  · split
    · exact (sig_clcInput hw _ _ _ _).after (sig_clcInput hw _ _ _ s)
    · exact sig_clcInput hw _ _ _ s
  · exact .refl s

/-! ### The wire -/

theorem sig_sinkNotify (k : SinkId) (p : PinIx) (old new : Level) (s : State) :
    Signalled s (sinkNotify w k p old new s) := by
  cases k with
  | t0cki => exact sig_t0Edge hw _ _ s
  | t1cki => exact sig_t1Edge hw _ _ _ s
  | t1osi => exact sig_t1Edge hw _ _ _ s
  | t1g => exact sig_t1GateSink _ _ s
  | ccpIn i => exact sig_captureSink _ _ _ s
  | clcIn n y => exact sig_clcSink hw _ _ _ _ s
  | ncoclk => exact sig_ncoClkSink hw _ _ s
  | ccpShut i => exact sig_asSink hw _ _ _ s
  | tRst x => exact sig_t2RstSink _ _ _ s

theorem sig_deliver (r : RecvId) (k : ChanKind) (sub v : Nat) (s : State) : Signalled s (deliver w r k sub v s) := by
  cases r with
  | host j => exact sig_emit _ s
  | t1Gate => exact sig_t1GateRecv _ _ _ s
  | tRst x => exact sig_t2RstRecv _ _ _ _ s
  | ccpAs i => exact sig_asRecv hw _ _ _ _ s
  | clcIn n y => exact sig_clcRecv hw _ _ _ _ _ s

end

/-- What happens under a raised nesting depth happens under the depth as it was. -/
theorem Signalled.under_pinDepth {s t : State} (h : Signalled { s with pinDepth := s.pinDepth + 1 } t) :
    Signalled s { t with pinDepth := t.pinDepth - 1 } := by
  obtain ⟨hc, hl, hs, ho, hq, hst⟩ := h
  have hd : t.pinDepth = s.pinDepth + 1 := congrArg State.pinDepth hc
  refine ⟨?_, hl, hs, ho, hq, hst⟩
  have h1 := congrArg (fun u : State => { u with pinDepth := s.pinDepth }) hc
  simpa [State.config, hd] using h1

theorem Signalled.under_busDepth {s t : State} (h : Signalled { s with busDepth := s.busDepth + 1 } t) :
    Signalled s { t with busDepth := t.busDepth - 1 } := by
  obtain ⟨hc, hl, hs, ho, hq, hst⟩ := h
  have hd : t.busDepth = s.busDepth + 1 := congrArg State.busDepth hc
  refine ⟨?_, hl, hs, ho, hq, hst⟩
  have h1 := congrArg (fun u : State => { u with busDepth := s.busDepth }) hc
  simpa [State.config, hd] using h1

theorem sig_pinDriveWith {notify : SinkId → PinIx → Level → Level → State → State}
    (hn : ∀ k p o n s, Signalled s (notify k p o n s)) (p : PinIx) (s : State) :
    Signalled s (pinDriveWith notify p s) := by
  unfold pinDriveWith
  dsimp only
  split
  · exact .refl s
  · split
    · exact sig_busDepth s
    · have h1 : Signalled s (s.setPin p { s.pins[p] with lvl := pinObservable s s.pins[p] }) :=
        .quiet (config_setPin_lvl s p _) rfl rfl rfl rfl
      refine (h1.trans (sig_emit _ _)).trans (Signalled.under_pinDepth (foldl_signalled _ _ (fun s k => ?_) _))
      exact hn _ _ _ _ s

theorem sig_publishWith {dlv : RecvId → ChanKind → Nat → Nat → State → State}
    (hd : ∀ r k b v s, Signalled s (dlv r k b v s)) (k : ChanKind) (sub v : Nat) (s : State) :
    Signalled s (publishWith dlv k sub v s) := by
  unfold publishWith
  dsimp only
  split
  · exact sig_busDepth s
  · refine Signalled.under_busDepth (foldl_signalled _ _ (fun s r => ?_) _)
    split
    · exact hd _ _ _ _ s
    · exact .refl s

/-- Everything the wire can do (R175, R182). -/
theorem sig_wire (fuel : Nat) (x : Signal) (s : State) : Signalled s (wire fuel x s) := by
  induction fuel generalizing x s with
  | zero => exact sig_busDepth s
  | succ n ih =>
    cases x with
    | drive p => exact sig_pinDriveWith (sig_sinkNotify ih) p s
    | publish k sub v => exact sig_publishWith (sig_deliver ih) k sub v s

theorem sig_signal (x : Signal) (s : State) : Signalled s (signal x s) := sig_wire _ x s

end Sys2Proof.Machine
end

