-- ==== Sys2Proof/Laws/Ran.lean ====
section
/-!
SUPPORT. Laws/Ran.lean: everything that a register write, a callback or the firing loop can do (`Ran`), for each of them
(30_encoding.md R111; 40_scheduler.md R136, R138).
-/

namespace Sys2Proof.Machine

open Sys2Proof

theorem Ran.refl (s : State) : Ran s s := ⟨rfl, ⟨[], by simp⟩, fun _ h => h, id⟩

theorem Ran.trans {s t u : State} (a : Ran s t) (b : Ran t u) : Ran s u := by
  obtain ⟨l1, h1⟩ := a.log
  obtain ⟨l2, h2⟩ := b.log
  exact ⟨b.wiring.trans a.wiring, ⟨l1 ++ l2, by rw [h2, h1, List.append_assoc]⟩,
    fun k h => b.sticky k (a.sticky k h), b.queueOk ∘ a.queueOk⟩

theorem Ran.after {s t u : State} (b : Ran t u) (a : Ran s t) : Ran s u := a.trans b

theorem wiring_config (s : State) : s.config.wiring = s.wiring := by
  simp only [State.config, State.wiring, Vector.map_map]
  rfl

theorem Signalled.ran {s t : State} (h : Signalled s t) : Ran s t :=
  ⟨by rw [← wiring_config t, h.config, wiring_config], h.log, h.sticky, h.queueOk⟩

/-- A change of peripheral state alone. -/
theorem Ran.quiet {s t : State} (hw : t.wiring = s.wiring) (ho : t.out = s.out) (hf : t.faults = s.faults)
    (hq : t.queue = s.queue) (hs : t.seq = s.seq) : Ran s t :=
  ⟨hw, ⟨[], by simp [ho]⟩, fun _ h => by rw [hf]; exact h, queueOk_of_eq hq hs⟩

/-! ### Setters, log, faults, queue -/

theorem ran_setTm (s : State) (x : T2Id) (u : Timer2) : Ran s (s.setTm x u) :=
  .quiet (by cases x <;> rfl) (by simp) (by simp) (by simp) (by simp)

theorem ran_setCcp (s : State) (i : CcpId) (u : Ccp) : Ran s (s.setCcp i u) :=
  .quiet (by cases i <;> rfl) (by simp) (by simp) (by simp) (by simp)

theorem ran_setClc (s : State) (n : ClcId) (c : Clc) : Ran s (s.setClc n c) :=
  .quiet (by cases n <;> rfl) (by simp) (by simp) (by simp) (by simp)

theorem ran_t0 (s : State) (u : Timer0) : Ran s { s with t0 := u } := .quiet rfl rfl rfl rfl rfl
theorem ran_t1 (s : State) (u : Timer1) : Ran s { s with t1 := u } := .quiet rfl rfl rfl rfl rfl
theorem ran_osc (s : State) (u : Osc) : Ran s { s with osc := u } := .quiet rfl rfl rfl rfl rfl
theorem ran_nco (s : State) (u : Nco) : Ran s { s with nco := u } := .quiet rfl rfl rfl rfl rfl
theorem ran_adc (s : State) (u : Adc) : Ran s { s with adc := u } := .quiet rfl rfl rfl rfl rfl

theorem ran_emit (r : OutRec) (s : State) : Ran s (emit r s) := (sig_emit r s).ran

theorem ran_raiseFault (k : FaultKind) (s : State) : Ran s (raiseFault k s) :=
  ⟨rfl, ⟨[], by simp⟩, fun j h => by simp [has_add, h], id⟩

theorem ran_cancel (t : TrigId) (s : State) : Ran s (cancel t s) :=
  ⟨rfl, ⟨[], by simp⟩, fun _ h => h, queueOk_cancel t⟩

theorem ran_schedule (t : TrigId) (c : Nat) (s : State) : Ran s (schedule t c s) := by
  refine ⟨?_, ?_, ?_, queueOk_schedule t c⟩ <;> rcases schedule_cases t c s with ⟨_, e⟩ | ⟨_, e⟩ <;> rw [e]
  · rfl
  · rfl
  · exact ⟨[], by simp⟩
  · exact ⟨[], by simp⟩
  · exact fun _ h => h
  · exact fun k h => by simp [has_add, h]

theorem ran_reschedule (t : TrigId) (c : Nat) (s : State) : Ran s (reschedule t c s) :=
  (ran_schedule _ _ _).after (ran_cancel t s)

theorem ran_setFlag (f : Flag) (v : Bool) (s : State) : Ran s (s.setFlag f v) := by
  cases f with
  | tmr0 => exact ran_t0 s _
  | tmr1 => exact ran_t1 s _
  | tmrx x => exact ran_setTm s _ _
  | ccp i => exact ran_setCcp s _ _
  | clc n => exact ran_setClc s _ _
  | nco => exact ran_nco s _
  | adc => exact ran_adc s _

theorem ran_raiseIF (f : Flag) (s : State) : Ran s (raiseIF f s) := (ran_emit _ _).after (ran_setFlag _ _ s)

theorem foldl_ran {α : Type} (f : State → α → State) (l : List α) (h : ∀ s a, Ran s (f s a)) (s : State) :
    Ran s (l.foldl f s) := by
  induction l generalizing s with
  | nil => exact .refl s
  | cons a l ih => exact (h s a).trans (ih _)

theorem ran_ite {s : State} {p : Prop} [Decidable p] {a b : State} (ha : Ran s a) (hb : Ran s b) :
    Ran s (if p then a else b) := by split <;> assumption

theorem ran_signal (x : Signal) (s : State) : Ran s (signal x s) := (sig_signal x s).ran

/-! ### Subscriptions -/

theorem filter_holdOnce {α : Type} [BEq α] [LawfulBEq α] (p : α → Bool) (b : Bool) (x : α) (l : List α)
    (h : p x = false) : (holdOnce b x l).filter p = l.filter p := by
  unfold holdOnce
  split
  · split
    · rfl
    · simp [h]
  · rw [List.filter_filter]
    apply List.filter_congr
    intro y _
    by_cases hy : y = x
    · subst hy; simp [h]
    · simp [hy]

theorem ran_resubscribe {k : SinkId} {r : RecvId} (hk : k.hostWired = false) (hr : r.isHost = false)
    (want : Option SigDesc) (s : State) : Ran s (resubscribe k r want s) := by
  refine .quiet ?_ (by simp only [resubscribe]) (by simp only [resubscribe]) (by simp only [resubscribe])
    (by simp only [resubscribe])
  have h1 : (resubscribe k r want s).pins.map Pin.wiring = s.pins.map Pin.wiring := by
    apply Vector.ext
    intro j hj
    simp only [resubscribe, Vector.getElem_map, Vector.getElem_ofFn, Pin.wiring, filter_holdOnce _ _ _ _ hk]
    rfl
  have h2 : (resubscribe k r want s).subs.map (fun l => l.filter RecvId.isHost) =
      s.subs.map (fun l => l.filter RecvId.isHost) := by
    apply Vector.ext
    intro j hj
    simp only [resubscribe, Vector.getElem_map, Vector.getElem_ofFn, filter_holdOnce _ _ _ _ hr]
    rfl
  unfold State.wiring
  rw [h1, h2]
  simp only [resubscribe]

theorem ran_raiseIfRefused (want : Option SigDesc) (s : State) : Ran s (raiseIfRefused want s) :=
  ran_ite (ran_raiseFault _ s) (.refl s)

/-! ### Timers -/

theorem ran_t0Start (v : Byte) (s : State) : Ran s (t0Start v s) := (ran_reschedule _ _ _).after (ran_t0 s _)

theorem ran_t0Stop (v : Byte) (s : State) : Ran s (t0Stop v s) := (ran_cancel _ _).after (ran_t0 s _)

theorem ran_writeTmr0 (v : Byte) (s : State) : Ran s (writeTmr0 v s) := ran_ite (ran_t0Start v s) (ran_t0 s _)

theorem ran_writeT0con (v : Byte) (s : State) : Ran s (writeT0con v s) :=
  ran_ite (.refl s) (ran_ite ((ran_t0Start _ _).after (ran_t0 s _)) ((ran_t0Stop _ _).after (ran_t0 s _)))

theorem ran_t0OvfCallback (s : State) : Ran s (t0OvfCallback signal s) :=
  (ran_signal _ _).after ((ran_raiseIF _ _).after ((ran_schedule _ _ _).after (ran_t0 s _)))

theorem ran_t1Recompute (s : State) : Ran s (t1Recompute s) := (sig_t1Recompute s).ran
theorem ran_t1Update (v : Half) (s : State) : Ran s (t1Update v s) := (sig_t1Update v s).ran

theorem ran_writeTmr1 (v : Half) (s : State) : Ran s (writeTmr1 v s) :=
  ran_ite ((ran_t1Update _ _).after (ran_t1 s _)) (ran_t1Update _ s)

theorem ran_writeT1con (v : Byte) (s : State) : Ran s (writeT1con v s) := by
  unfold writeT1con
  dsimp only
  split
  · exact ran_t1 s _
  · split <;> exact (ran_t1Update _ _).after (ran_t1 s _)

theorem ran_t1GainGate (old want : Option SigDesc) (s : State) : Ran s (t1GainGate old want s) := by
  unfold t1GainGate
  split
  · exact .refl s
  · split <;> exact ran_t1 s _

theorem ran_writeT1gcon (v : Byte) (s : State) : Ran s (writeT1gcon v s) :=
  (ran_t1Update _ _).after ((ran_raiseIfRefused _ _).after ((ran_t1GainGate _ _ _).after
    ((ran_resubscribe rfl rfl _ _).after (ran_t1 s _))))

theorem ran_t1BrkCallback (s : State) : Ran s (t1BrkCallback signal s) :=
  (ran_t1Recompute _).after ((foldl_ran _ _ (fun s _ => ran_ite (sig_compareMatch sig_signal _ s).ran (.refl s)) _).after
    (ran_ite (sig_t1Rollover sig_signal s).ran (.refl s)))

theorem ran_t2Recompute (x : T2Id) (s : State) : Ran s (t2Recompute x s) := (sig_t2Recompute x s).ran
theorem ran_t2Update (x : T2Id) (v : Byte) (s : State) : Ran s (t2Update x v s) := (sig_t2Update x v s).ran
theorem ran_t2ArmLevel (x : T2Id) (s : State) : Ran s (t2ArmLevel x s) := (sig_t2ArmLevel x s).ran

theorem ran_t2Resubscribe (x : T2Id) (old : Option SigDesc) (s : State) : Ran s (t2Resubscribe x old s) := by
  unfold t2Resubscribe
  dsimp only
  split
  · exact (ran_raiseIfRefused _ _).after (ran_resubscribe rfl rfl _ s)
  · split
    · exact (ran_setTm _ _ _).after ((ran_raiseIfRefused _ _).after (ran_resubscribe rfl rfl _ s))
    · exact (ran_raiseIfRefused _ _).after (ran_resubscribe rfl rfl _ s)

theorem ran_writePr (x : T2Id) (v : Byte) (s : State) : Ran s (writePr x v s) :=
  (ran_t2Recompute _ _).after (ran_setTm s _ _)

theorem ran_writeTcon (x : T2Id) (v : Byte) (s : State) : Ran s (writeTcon x v s) :=
  ran_ite (.refl s) (ran_ite ((ran_t2Update _ _ _).after (ran_setTm s _ _))
    ((ran_t2Update _ _ _).after ((ran_t2ArmLevel _ _).after ((ran_t2Resubscribe _ _ _).after (ran_setTm s _ _)))))

theorem ran_writeTclkcon (x : T2Id) (v : Byte) (s : State) : Ran s (writeTclkcon x v s) :=
  ran_ite (.refl s) ((ran_t2Update _ _ _).after (ran_setTm s _ _))

theorem ran_t2AfterSelect (x : T2Id) (t : Timer2) (v : Byte) (s : State) : Ran s (t2AfterSelect x t v s) :=
  ran_ite ((ran_t2Update _ _ _).after (ran_t2Resubscribe _ _ s))
    ((ran_t2Update _ _ _).after ((ran_t2ArmLevel _ _).after (ran_t2Resubscribe _ _ s)))

theorem ran_writeThlt (x : T2Id) (v : Byte) (s : State) : Ran s (writeThlt x v s) :=
  (ran_t2AfterSelect _ _ _ _).after (ran_setTm s _ _)

theorem ran_writeTrst (x : T2Id) (v : Byte) (s : State) : Ran s (writeTrst x v s) :=
  (ran_t2AfterSelect _ _ _ _).after (ran_setTm s _ _)

theorem ran_t2Reratio (x : T2Id) (s : State) : Ran s (t2Reratio x s) := ran_ite (ran_t2Update _ _ s) (.refl s)

theorem ran_t2ReratioAll (s : State) : Ran s (t2ReratioAll s) :=
  (ran_t2Reratio _ _).after ((ran_t2Reratio _ _).after (ran_t2Reratio _ s))

theorem ran_t2ReratioIfStale (x : T2Id) (s : State) : Ran s (t2ReratioIfStale x s) :=
  ran_ite (.refl s) (ran_t2Reratio x s)

theorem ran_t2ReratioStale (s : State) : Ran s (t2ReratioStale s) :=
  (ran_t2ReratioIfStale _ _).after ((ran_t2ReratioIfStale _ _).after (ran_t2ReratioIfStale _ s))

theorem ran_t2EndRun (x : T2Id) (s : State) : Ran s (t2EndRun x s) := by
  unfold t2EndRun
  exact ran_ite (.refl s) (ran_ite ((ran_t2Resubscribe _ _ _).after (ran_setTm s _ _)) (ran_setTm s _ _))

theorem ran_t2RunAfter (x : T2Id) (s : State) : Ran s (t2RunAfter x s) := ran_ite (.refl s) (ran_setTm s _ _)

theorem ran_t2Postscale (x : T2Id) (s : State) : Ran s (t2Postscale x s) :=
  ran_ite ((ran_raiseIF _ _).after (ran_setTm s _ _)) (ran_setTm s _ _)

theorem ran_t2Advance (x : T2Id) (n : Nat) (s : State) : Ran s (t2Advance x n s) := ran_setTm s _ _

theorem ran_dutyMatch (i : CcpId) (s : State) : Ran s (dutyMatch signal i s) :=
  (sig_setMod sig_signal _ _ _).ran.after (ran_setCcp s _ _)

theorem ran_periodStart (i : CcpId) (s : State) : Ran s (periodStart signal i s) := by
  have h (m : Level) (u : Ccp) : Ran s (setMod signal i m (s.setCcp i u)) :=
    (sig_setMod sig_signal _ _ _).ran.after (ran_setCcp s _ _)
  exact ran_ite (.refl s) (ran_ite (h _ _) (ran_ite (h _ _) (h _ _)))

theorem ran_t2Period (x : T2Id) (s : State) : Ran s (t2Period signal x s) :=
  (foldl_ran _ _ (fun s i => ran_periodStart i s) _).after ((ran_t2RunAfter _ _).after ((ran_t2EndRun _ _).after
    ((ran_t2Postscale _ _).after ((ran_signal _ _).after (ran_t2Advance _ _ s)))))

theorem ran_t2Place (due : Bool) (x : T2Id) (s : State) : Ran s (t2Place due x s) := (sig_t2Place due x s).ran

theorem ran_t2BrkCallback (x : T2Id) (s : State) : Ran s (t2BrkCallback signal x s) := by
  unfold t2BrkCallback
  dsimp only
  have h1 : Ran s ((s.tm x).pwm.foldl
      (fun u i => if maskHas (s.tm x).breakMask (dutyBit i) then dutyMatch signal i u else u) s) :=
    foldl_ran _ _ (fun s i => ran_ite (ran_dutyMatch i s) (.refl s)) s
  have h2 := Ran.after (ran_ite (p := maskHas (s.tm x).breakMask wrapBit = true) (ran_t2Advance x 256 _) (.refl _)) h1
  have h3 := Ran.after (ran_ite (p := maskHas (s.tm x).breakMask periodBit = true) (ran_t2Period x _) (.refl _)) h2
  exact ran_ite ((ran_t2Place _ _ _).after h1) ((ran_t2Recompute _ _).after h3)

/-! ### ADC -/

theorem ran_setGo (v : Bool) (s : State) : Ran s (setGo v s) := ran_adc s _
theorem ran_adcStart (s : State) : Ran s (adcStart s) := (sig_adcStart s).ran

theorem ran_adcAbort (s : State) : Ran s (adcAbort s) :=
  (ran_setGo _ _).after ((ran_adc _ _).after (ran_cancel _ s))

theorem ran_writeAdcon0 (v : Byte) (s : State) : Ran s (writeAdcon0 v s) := by
  unfold writeAdcon0
  dsimp only
  have h : Ran s (if (adGo v && !adGo s.adc.con0) = true then
      adcStart (setGo false { s with adc := { s.adc with con0 := v } })
    else { s with adc := { s.adc with con0 := v } }) :=
    ran_ite ((ran_adcStart _).after ((ran_setGo _ _).after (ran_adc s _))) (ran_adc s _)
  exact ran_ite ((ran_adcAbort _).after h) h

theorem ran_adcSeqCallback (s : State) : Ran s (adcSeqCallback signal s) := by
  unfold adcSeqCallback
  split
  · exact .refl s
  · exact (ran_reschedule _ _ _).after (ran_adc s _)
  · have h : Ran s (quantize s).2 := by
      unfold quantize; split <;> [exact ran_emit _ s; exact .refl s]
    exact (ran_signal _ _).after ((ran_raiseIF _ _).after ((ran_adc _ _).after ((ran_setGo _ _).after
      ((ran_adc _ _).after h))))

/-! ### CCP -/

theorem ran_refresh (i : CcpId) (s : State) : Ran s (refresh signal i s) := (sig_refresh sig_signal i s).ran

theorem ran_shutdownCcp (i : CcpId) (s : State) : Ran s (shutdownCcp i s) := (sig_shutdownCcp i s).ran

theorem ran_asGain (i : CcpId) (old want : Option SigDesc) (s : State) : Ran s (asGain i old want s) := by
  unfold asGain
  split
  · exact .refl s
  · split <;> exact ran_setCcp s _ _

theorem ran_writeCcpas (i : CcpId) (v : Byte) (s : State) : Ran s (writeCcpas signal i v s) := by
  unfold writeCcpas
  dsimp only
  refine (ran_refresh _ _).after (Ran.after (ran_setCcp _ _ _) ?_)
  have h2 := (ran_asGain i (asWant s.cfg (s.ccp i).as) (asWant s.cfg v) _).after ((ran_raiseIfRefused (asWant s.cfg v) _).after
    ((ran_resubscribe (k := .ccpShut i) (r := .ccpAs i) rfl rfl (asWant s.cfg v) _).after
      (ran_setCcp s i { s.ccp i with as := v })))
  generalize asGain i _ _ _ = s2 at *
  have h3 : Ran s (if (bit v 7 && !(s2.ccp i).shutdown) = true then shutdownCcp i s2 else s2) :=
    ran_ite ((ran_shutdownCcp _ _).after h2) h2
  generalize (if (bit v 7 && !(s2.ccp i).shutdown) = true then shutdownCcp i s2 else s2) = s3 at *
  have h4 : Ran s (if (!bit v 7 && (s3.ccp i).shutdown && !asActive s3 i) = true then
      s3.setCcp i { s3.ccp i with shutdown := false } else s3) := ran_ite ((ran_setCcp _ _ _).after h3) h3
  generalize (if (!bit v 7 && (s3.ccp i).shutdown && !asActive s3 i) = true then
      s3.setCcp i { s3.ccp i with shutdown := false } else s3) = s4 at *
  exact ran_ite ((ran_shutdownCcp _ _).after h4) h4

theorem ran_ccpLeave (i : CcpId) (s : State) : Ran s (ccpLeave i s) :=
  ran_ite ((ran_cancel _ _).after ((ran_t1Recompute _).after (ran_t1 s _)))
    (ran_ite ((ran_t2Recompute _ _).after ((ran_setCcp _ _ _).after ((ran_cancel _ _).after ((ran_setCcp _ _ _).after
      (ran_setTm s _ _))))) (.refl s))

theorem ran_setOutput (i : CcpId) (k : Fin 4) (l : Level) (s : State) : Ran s (setOutput i k l s) := ran_setCcp s _ _

theorem ran_ccpEnter (i : CcpId) (s : State) : Ran s (ccpEnter i s) := by
  refine ran_ite (ran_setCcp s _ _) (ran_ite ?_ (ran_ite ((ran_t2Recompute _ _).after ((ran_setTm _ _ _).after
    (ran_setCcp s _ _))) (.refl s)))
  exact (ran_t1Recompute _).after ((ran_t1 _ _).after (ran_ite (ran_setOutput _ _ _ s) (ran_ite (ran_setOutput _ _ _ s)
    (.refl s))))

theorem ran_writeCcpMode (i : CcpId) (con tsel : Byte) (s : State) : Ran s (writeCcpMode signal i con tsel s) :=
  ran_ite (ran_setCcp s _ _) ((ran_refresh _ _).after ((ran_ccpEnter _ _).after ((ran_setCcp _ _ _).after
    (ran_ccpLeave i s))))

theorem ran_ccprWritten (i : CcpId) (s : State) : Ran s (ccprWritten i s) :=
  ran_ite ((ran_t1Recompute _).after (ran_t1 s _)) (.refl s)

theorem ran_ccpDbCallback (i : CcpId) (s : State) : Ran s (ccpDbCallback signal i s) := by
  unfold ccpDbCallback
  dsimp only
  split
  · split
    · exact (ran_refresh _ _).after (ran_setCcp s _ _)
    · exact ran_setCcp s _ _
  · exact ran_setCcp s _ _

theorem ran_ccpPulseCallback (i : CcpId) (s : State) : Ran s (ccpPulseCallback signal i s) :=
  ran_ite ((ran_refresh _ _).after (ran_setOutput _ _ _ s)) (.refl s)

/-! ### Oscillator -/

theorem ran_republish (f : Rat) (s : State) : Ran s (republish signal f s) :=
  ran_ite (.refl s) ((ran_t2ReratioAll _).after ((ran_signal _ _).after ((ran_emit _ _).after (ran_osc s _))))

theorem ran_startSettle (s : State) : Ran s (startSettle s) := (ran_reschedule _ _ _).after (ran_osc s _)

theorem ran_startOst (src : ExtSrc) (b : Bool) (s : State) : Ran s (startOst signal src b s) := by
  have h := (ran_reschedule .oscOst (s.cycle + s.cfg.ostCycles) _).after
    (ran_osc s { s.osc with state := .ost, target := some src })
  exact ran_ite ((ran_republish _ _).after (ran_ite h ((ran_startSettle _).after h)))
    ((ran_republish _ _).after ((ran_cancel _ _).after h))

theorem ran_startInternal (s : State) : Ran s (startInternal signal s) :=
  (ran_republish _ _).after ((ran_startSettle _).after (ran_osc s _))

theorem ran_updateFInt (s : State) : Ran s (updateFInt s) := ran_osc s _

theorem ran_oscDerive (s : State) : Ran s (oscDerive signal s) := by
  have h := (ran_updateFInt _).after ((ran_cancel .oscOst _).after (ran_cancel .oscSettle s))
  unfold oscDerive
  dsimp only
  refine (ran_t2ReratioStale _).after ?_
  split
  · exact (ran_startInternal _).after h
  · exact (ran_startOst _ _ _).after ((ran_osc _ _).after h)

theorem ran_writeOsc (con tune : Byte) (s : State) : Ran s (writeOsc signal con tune s) := by
  have h := ran_osc s { s.osc with con := con, tune := tune }
  have h2 := (ran_updateFInt _).after h
  unfold writeOsc
  dsimp only
  refine (ran_t2ReratioStale _).after ?_
  split
  · split
    · exact h
    · split
      · exact (ran_republish _ _).after h2
      · exact h2
  · split
    · exact (ran_startInternal _).after ((ran_cancel _ _).after h2)
    · split
      · exact h2
      · exact (ran_startOst _ _ _).after h2

theorem ran_oscSettleCallback (s : State) : Ran s (oscSettleCallback s) := ran_ite (ran_osc s _) (.refl s)

theorem ran_oscOstCallback (s : State) : Ran s (oscOstCallback signal s) := by
  unfold oscOstCallback
  split
  · split
    · exact (ran_republish _ _).after (ran_osc s _)
    · exact .refl s
  · exact .refl s

/-! ### NCO and CLC -/

theorem ran_ncoSync (s : State) : Ran s (ncoSync s) := ran_ite (ran_nco s _) (.refl s)

theorem ran_ncoRecompute (s : State) : Ran s (ncoRecompute s) := ran_ite (ran_reschedule _ _ s) (ran_cancel _ s)

theorem ran_ncoOutput (s : State) : Ran s (ncoOutput signal s) := (sig_ncoOutput sig_signal s).ran

theorem ran_driveControl (c : CtlId) (s : State) : Ran s (driveControl signal c s) :=
  (sig_driveWhere sig_signal _ s).ran

theorem ran_ncoOvfCallback (s : State) : Ran s (ncoOvfCallback signal s) :=
  (ran_ncoRecompute _).after ((sig_ncoOverflow sig_signal _ _).ran.after (ran_nco s _))

theorem ran_ncoPulseCallback (s : State) : Ran s (ncoPulseCallback signal s) :=
  ran_ite ((ran_ncoOutput _).after (ran_nco s _)) (.refl s)

theorem ran_ncoStop (b : Bool) (s : State) : Ran s (ncoStop b s) := ran_ite ((ran_cancel _ _).after (ran_nco s _)) (.refl s)

theorem ran_ncoReanchor (s : State) : Ran s (ncoReanchor s) := ran_ite (ran_nco s _) (.refl s)

theorem ran_ncoStored (store : Nco → Nco) (s : State) : Ran s (ncoStored store s) :=
  (ran_ncoReanchor _).after ((ran_ncoStop _ _).after ((ran_nco _ _).after (ran_ncoSync s)))

theorem ran_writeNco (store : Nco → Nco) (s : State) : Ran s (writeNco signal store s) := by
  have h := (ran_ncoOutput _).after ((ran_ncoRecompute _).after (ran_ncoStored store s))
  unfold writeNco
  dsimp only
  split
  · exact h
  · exact (ran_driveControl _ _).after h

theorem ran_clcResubscribeInput (n : ClcId) (old : Clc) (s : State) (y : Fin 4) :
    Ran s (clcResubscribeInput n old s y) := by
  unfold clcResubscribeInput
  dsimp only
  split
  · exact ran_resubscribe rfl rfl _ s
  · split
    · exact (ran_raiseIfRefused _ _).after ((ran_setClc _ _ _).after (ran_resubscribe rfl rfl _ s))
    · exact ran_resubscribe rfl rfl _ s

theorem ran_clcResubscribe (n : ClcId) (old : Clc) (s : State) : Ran s (clcResubscribe n old s) :=
  foldl_ran _ _ (ran_clcResubscribeInput n old) s

theorem ran_writeClc (n : ClcId) (store : Clc → Clc) (s : State) : Ran s (writeClc signal n store s) := by
  unfold writeClc
  dsimp only
  refine (sig_clcEvaluate sig_signal _ _).ran.after ?_
  have h := fun c => (ran_clcResubscribe n (s.clc n) _).after (ran_setClc s n c)
  exact ran_ite (h _) ((ran_driveControl _ _).after (h _))

/-! ### Register writes, callbacks, the firing loop -/

/-- Everything a PUT can do (R160). -/
theorem ran_regPut (r : Reg) (v : Byte) (s : State) : Ran s (regPut r v s) := by
  unfold regPut
  generalize putByte r v s = new
  unfold onWrite
  cases r with
  | cycle k => exact .refl s
  | fault => exact .refl s
  | oscstat => exact .refl s
  | tmr0 => exact ran_writeTmr0 _ s
  | t0con => exact ran_writeT0con _ s
  | t0stat => exact ran_setFlag .tmr0 _ s
  | tmr1l => exact ran_writeTmr1 _ s
  | tmr1h => exact ran_writeTmr1 _ s
  | t1con => exact ran_writeT1con _ s
  | t1gcon => exact ran_writeT1gcon _ s
  | t1stat => exact ran_setFlag .tmr1 _ s
  | tmr x => exact ran_t2Update _ _ s
  | pr x => exact ran_writePr _ _ s
  | tcon x => exact ran_writeTcon _ _ s
  | thlt x => exact ran_writeThlt _ _ s
  | tclkcon x => exact ran_writeTclkcon _ _ s
  | trst x => exact ran_writeTrst _ _ s
  | tstat x => exact ran_setFlag (.tmrx x) _ s
  | ccprl i => exact (ran_ccprWritten _ _).after (ran_setCcp s _ _)
  | ccprh i => exact (ran_ccprWritten _ _).after (ran_setCcp s _ _)
  | ccpcon i => exact ran_writeCcpMode i new (s.ccp i).tsel s
  | ccptsel i => exact ran_writeCcpMode i (s.ccp i).con new s
  | pwmcon i => exact (ran_refresh _ _).after (ran_setCcp s _ _)
  | ccpas i => exact ran_writeCcpas _ _ s
  | ccpstat i => exact ran_setFlag (.ccp i) _ s
  | ccppol i => exact (ran_refresh _ _).after (ran_setCcp s _ _)
  | osccon => exact ran_writeOsc new s.osc.tune s
  | osctune => exact ran_writeOsc s.osc.con new s
  | clccon n => exact ran_writeClc n (storeClccon new) s
  | clcpol n => exact ran_writeClc n (storeClcpol new) s
  | clcsel n y => exact ran_writeClc n (storeClcsel y new) s
  | clcgls n k => exact ran_writeClc n (storeClcgls k new) s
  | clcstat n => exact ran_setFlag (.clc n) _ s
  | ncoaccl => exact ran_writeNco (storeAccl new) s
  | ncoacch => exact ran_writeNco (storeAcch new) s
  | ncoaccu => exact ran_writeNco (storeAccu new) s
  | ncoincl => exact ran_writeNco (storeIncl new) s
  | ncoinch => exact ran_writeNco (storeInch new) s
  | ncocon => exact ran_writeNco (storeNcocon new) s
  | ncoclk => exact ran_writeNco (storeNcoclk new) s
  | ncostat => exact ran_setFlag .nco _ s
  | adresl => exact ran_adc s _
  | adresh => exact ran_adc s _
  | adcon0 => exact ran_writeAdcon0 _ s
  | adcon1 => exact ran_adc s _
  | adacq => exact ran_adc s _
  | adstat => exact ran_setFlag .adc _ s

/-- Everything a callback can do (R138). -/
theorem ran_callback (t : TrigId) (s : State) : Ran s (callback t s) := by
  cases t with
  | t0Ovf => exact ran_t0OvfCallback s
  | t1Brk => exact ran_t1BrkCallback s
  | tBrk x => exact ran_t2BrkCallback x s
  | ccpDb i => exact ran_ccpDbCallback i s
  | ccpPulse i => exact ran_ccpPulseCallback i s
  | oscSettle => exact ran_oscSettleCallback s
  | oscOst => exact ran_oscOstCallback s
  | ncoOvf => exact ran_ncoOvfCallback s
  | ncoPulse => exact ran_ncoPulseCallback s
  | adcSeq => exact ran_adcSeqCallback s
  | ext j => exact ran_emit _ s

theorem nextDue_some {s : State} {e : Event} {rest : List Event} (h : nextDue s = some (e, rest)) :
    s.queue = e :: rest ∧ e.cycle ≤ s.cycle := by
  unfold nextDue at h
  split at h
  · simp at h
  · rename_i hq
    split at h
    · simp only [Option.some.injEq, Prod.mk.injEq] at h
      obtain ⟨rfl, rfl⟩ := h
      exact ⟨hq, by assumption⟩
    · simp at h

/-- Everything one turn of the firing loop can do (R136); `firing` is `none` after it, as it is between commands. -/
theorem ran_fireEvent {s : State} {e : Event} {rest : List Event} (hf : s.firing = none)
    (h : nextDue s = some (e, rest)) : Ran s (fireEvent e rest s) := by
  obtain ⟨hq, _⟩ := nextDue_some h
  have h1 := ran_callback e.trig { s with queue := rest, firing := some (e.trig, e.cycle) }
  unfold fireEvent
  dsimp only
  generalize callback e.trig { s with queue := rest, firing := some (e.trig, e.cycle) } = t at *
  refine ⟨?_, h1.log, h1.sticky, fun hs => ?_⟩
  · have h2 := congrArg (fun u : State => ({ u with firing := none } : State)) h1.wiring
    have h3 : s.wiring = { s.wiring with firing := none } := by simp [State.wiring, hf]
    rw [h3]
    exact h2
  · have h4 : State.queueOk { s with queue := rest, firing := some (e.trig, e.cycle) } := by
      obtain ⟨a, b, c⟩ := hs
      rw [hq] at a b c
      exact ⟨(List.pairwise_cons.1 a).2, (List.pairwise_cons.1 b).2, fun x hx => c x (List.mem_cons_of_mem _ hx)⟩
    exact h1.queueOk h4

theorem firing_of_ran {s t : State} (h : Ran s t) : t.firing = s.firing := by
  simpa [State.wiring] using congrArg State.firing h.wiring

/-- Everything the firing loop can do (R136). -/
theorem ran_advanceLoop (n : Nat) {s t : State} (hf : s.firing = none) (h : advanceLoop n s = some t) : Ran s t := by
  induction n generalizing s with
  | zero =>
    unfold advanceLoop at h
    split at h
    · cases h; exact .refl _
    · cases h
  | succ n ih =>
    unfold advanceLoop at h
    split at h
    · cases h; exact .refl _
    · rename_i hd
      have h1 := ran_fireEvent hf hd
      exact h1.trans (ih (by rw [firing_of_ran h1, hf]) h)

/-- Everything ADVANCE can do. -/
theorem ran_advance {s t : State} (hf : s.firing = none) (h : advance s = .next t) : Ran s t :=
  let ⟨n, hn⟩ := advance_next_iff.1 h
  ran_advanceLoop n hf hn

/-! ### Sleep and wake -/

/-- Everything SLEEP can do (R455), beside the notification itself. -/
theorem ran_goToSleep (s : State) : Ran { s with sleeping := true } (goToSleep s) := by
  have h0 : Ran { s with sleeping := true } { ncoSync s with sleeping := true } := by
    unfold ncoSync; split <;> exact .quiet rfl rfl rfl rfl rfl
  have h1 (b : Bool) (v : Byte) (s : State) : Ran s (sleepT0 b v s) := ran_ite (ran_t0Stop v s) (.refl s)
  have h2 (b : Bool) (v : Half) (s : State) : Ran s (sleepT1 b v s) := ran_ite (ran_t1Update v s) (.refl s)
  have h3 (x : T2Id) (b : Bool) (v : Byte) (s : State) : Ran s (sleepT2 x b v s) := ran_ite (ran_t2Update x v s) (.refl s)
  have h := (h3 .t6 s.t6.run (t2Count s .t6) _).after ((h3 .t4 s.t4.run (t2Count s .t4) _).after
    ((h3 .t2 s.t2.run (t2Count s .t2) _).after ((h2 s.t1.run (t1Count s) _).after ((h1 s.t0.run (t0Count s) _).after h0))))
  unfold goToSleep
  dsimp only
  split
  · exact (ran_cancel _ _).after h
  · exact h

/-- Everything WAKE can do (R456), beside the notification itself. -/
theorem ran_wakeUp (s : State) : Ran { s with sleeping := false } (wakeUp s) := by
  have h2 (x : T2Id) (s : State) : Ran s (wakeT2 x s) := ran_ite (ran_t2Update _ _ s) (.refl s)
  have hn (s : State) : Ran s (wakeNco s) := ran_ite ((ran_ncoRecompute _).after (ran_ncoReanchor s)) (.refl s)
  have h1 (s : State) : Ran s (wakeT1 s) := ran_ite (ran_t1Update _ s) (.refl s)
  have h0 (s : State) : Ran s (wakeT0 s) := ran_ite (ran_t0Start _ s) (.refl s)
  exact (ran_oscDerive _).after ((hn _).after ((h2 _ _).after ((h2 _ _).after ((h2 _ _).after ((h1 _).after (h0 _))))))

end Sys2Proof.Machine
end

