-- ==== Sys2Proof/Tests/Slice0.lean ====
section
/-!
SUPPORT. Tests/Slice0.lean: the checks of WellFormed.lean refusing, every command's decoding from words written out from
the tables of 30_encoding.md, single steps with the results that the spec's examples give, and for every obligation states
and operands that meet its hypotheses.
-/

namespace Sys2Proof.Tests

open Sys2Proof Sys2Proof.Machine

-- One theorem at a time: each waits for the kernel, and a thread for each of them takes too much memory.
set_option Elab.async false

/-! ### Well-formedness: each check refuses -/

theorem test_wf_refuses_managed_triggers :
    (Instr.sched .t0Ovf 0).wf = false ∧ (Instr.cancel .adcSeq).wf = false ∧ (Instr.resched (.tBrk .t6) 9).wf = false := by
  decide

theorem test_wf_refuses_managed_sinks :
    (Instr.addsink 0 .t1g).wf = false ∧ (Instr.rmsink 31 (.clcIn .clc4 3)).wf = false := by decide

theorem test_wf_refuses_peripheral_receivers :
    (Instr.attach .freq .t1Gate).wf = false ∧ (Instr.detach .adcDone (.ccpAs .ccp2)).wf = false := by decide

/-- A PUT of a mapped cell is the row of that cell, not the row PUT. -/
theorem test_wf_refuses_put_of_a_mapped_cell : (Instr.put 0 0x0000).wf = false ∧ (Instr.put 0 0x0E05).wf = false := by
  decide

theorem test_wf_accepts :
    (Instr.sched (.ext 31) 0).wf = true ∧ (Instr.addsink 31 .ncoclk).wf = true ∧ (Instr.attach .freq (.host 31)).wf = true ∧
    (Instr.put 0xFF 0x0009).wf = true ∧ (Instr.get 0xFFFF).wf = true := by decide

theorem test_cfg_default_wf : Cfg.default.wf = true := by decide +kernel

theorem test_cfg_refuses_table_lengths :
    ({ Cfg.default with clcInputTable := [] } : Cfg).wf = false ∧
    ({ Cfg.default with clcInputTable := List.replicate 4 [.low] } : Cfg).wf = false ∧
    ({ Cfg.default with t1GateTable := [.low] } : Cfg).wf = false ∧
    ({ Cfg.default with t2ClkTable := [.fosc4, .fosc, .intRc] } : Cfg).wf = false ∧
    ({ Cfg.default with t2ClkTable := List.replicate 16 .openEntry } : Cfg).wf = false ∧
    ({ Cfg.default with t2RstTable := [] } : Cfg).wf = false ∧
    ({ Cfg.default with ccpAsTable := [.low] } : Cfg).wf = false ∧
    ({ Cfg.default with ccpAsTable := List.replicate 8 (.pin 0) } : Cfg).wf = false ∧
    ({ Cfg.default with hltTable := [.reserved] } : Cfg).wf = false := by decide +kernel

theorem test_cfg_refuses_frequencies :
    ({ Cfg.default with ircfTable := [] } : Cfg).wf = false ∧
    ({ Cfg.default with ircfTable := List.replicate 16 (0, .lf) } : Cfg).wf = false ∧
    ({ Cfg.default with tuneFactor := [1] } : Cfg).wf = false ∧
    ({ Cfg.default with tuneFactor := 1 :: List.replicate 63 0 } : Cfg).wf = false ∧
    ({ Cfg.default with tuneFactor := List.replicate 64 2 } : Cfg).wf = false ∧
    ({ Cfg.default with foscExtHz := 0 } : Cfg).wf = false ∧
    ({ Cfg.default with fsecHz := 0 } : Cfg).wf = false ∧
    ({ Cfg.default with adcFrcTad := 0 } : Cfg).wf = false := by decide +kernel

theorem test_cfg_refuses_parameters :
    ({ Cfg.default with ostCycles := 0 } : Cfg).wf = false ∧
    ({ Cfg.default with settleCycles := 0 } : Cfg).wf = false ∧
    ({ Cfg.default with busDepthMax := 0 } : Cfg).wf = false ∧
    ({ Cfg.default with adcBits := 0 } : Cfg).wf = false ∧
    ({ Cfg.default with adcBits := 17 } : Cfg).wf = false := by decide +kernel

/-- R7's counts: the units' are fixed by the spec's ids, a pin or channel index is below 32. -/
theorem test_cfg_counts :
    ({ Cfg.default with nCcp := 3 } : Cfg).wf = false ∧ ({ Cfg.default with nClc := 3 } : Cfg).wf = false ∧
    ({ Cfg.default with nNco := 2 } : Cfg).wf = false ∧ ({ Cfg.default with nPin := 33 } : Cfg).wf = false ∧
    ({ Cfg.default with nAdcCh := 33 } : Cfg).wf = false ∧ ({ Cfg.default with nAdcCh := 4 } : Cfg).wf = true ∧
    ({ Cfg.default with nPin := 11 } : Cfg).wf = true := by decide +kernel

/-- R444: a table names a pin that the block does not have (the shutdown pin, index 10), or a sub-code past 16 bits. -/
theorem test_cfg_refuses_descriptors :
    ({ Cfg.default with nPin := 10 } : Cfg).wf = false ∧
    ({ Cfg.default with t1GateTable := List.replicate 4 (.bus .clcOut 0x10000) } : Cfg).wf = false ∧
    ({ Cfg.default with t1GateTable := List.replicate 4 (.bus .clcOut 0xFFFF) } : Cfg).wf = true := by decide +kernel

/-! ### Decoding: words written out from R101 to R104 and the id tables of R112 to R115 -/

theorem test_decode_scheduler_words :
    decode [0x01000000] = .command .now [] ∧
    decode [0x023F0000, 0x89ABCDEF, 0x01234567] = .command (.sched (.ext 31) 0x0123456789ABCDEF) [] ∧
    decode [0x03200000] = .command (.cancel (.ext 0)) [] ∧
    decode [0x04210000, 0x00000007, 0x80000000] = .command (.resched (.ext 1) 0x8000000000000007) [] ∧
    decode [0x05000000] = .command .advance [] ∧
    decode [0x06000000] = .command .step [] := by decide +kernel

theorem test_decode_pin_words :
    decode [0x101F0023] = .command (.setsrc 31 (some (.clc .clc4))) [] ∧
    decode [0x1000FFFF] = .command (.setsrc 0 none) [] ∧
    decode [0x11050012] = .command (.setctl 5 (some (.ccp1 2))) [] ∧
    decode [0x12030009] = .command (.addsink 3 (.ccpIn .ccp2)) [] ∧
    decode [0x13040001] = .command (.rmsink 4 .t1cki) [] ∧
    decode [0x140A0000] = .command (.updpin 10) [] ∧
    decode [0x15070002] = .command (.drive 7 .Z) [] ∧
    decode [0x161F0000] = .command (.pinrd 31) [] := by decide +kernel

theorem test_decode_bus_words :
    decode [0x18090100] = .command (.attach .freq (.host 0)) [] ∧
    decode [0x190B011F] = .command (.detach .adcDone (.host 31)) [] ∧
    decode [0x1A060002, 0x00000001, 0x00000000] = .command (.publish .cmpEdge 2 1) [] := by decide +kernel

theorem test_decode_register_words :
    decode [0x20A50009] = .command (.put 0xA5 0x0009) [] ∧
    decode [0x21000100] = .command (.get 0x0100) [] ∧
    decode [0x22000802] = .command (.getv 0x0802) [] ∧
    decode [0x281F0000, 0xFFFFFFFF, 0xFFFFFFFF] = .command (.setv (.chan 31) (-1)) [] ∧
    decode [0x28FF0000, 0x00000000, 0x00000000] = .command (.setv .vrefLo 0) [] := by decide +kernel

theorem test_decode_power_words :
    decode [0x29000000] = .command .getfreq [] ∧ decode [0x30000000] = .command .sleep [] ∧
    decode [0x31000000] = .command .wake [] ∧ decode [0x3F000000] = .command .reset [] := by decide +kernel

/-- "including 0x00, so an all-zero word is illegal" (R105), and words short of their argument wait. -/
theorem test_decode_refuses :
    decode [0x00000000] = .illegal .unknownOpcode [] ∧ decode [0x01000001] = .illegal .unusedField [] ∧
    decode [0x15000003] = .illegal .badLevel [] ∧ decode [0x02000000, 5, 0, 7] = .illegal .managedTrigger [7] ∧
    decode [0x02200000, 5] = .incomplete ∧ decode [] = .incomplete := by decide +kernel

theorem test_decode_put_core :
    decode [0x20A50000] = .command (.putCycle0 0xA5) [] ∧
    decode [0x20B60001] = .command (.putCycle1 0xB6) [] ∧
    decode [0x20C70002] = .command (.putCycle2 0xC7) [] ∧
    decode [0x20D80003] = .command (.putCycle3 0xD8) [] ∧
    decode [0x20E90004] = .command (.putCycle4 0xE9) [] ∧
    decode [0x20FA0005] = .command (.putCycle5 0xFA) [] ∧
    decode [0x200B0006] = .command (.putCycle6 0x0B) [] ∧
    decode [0x201C0007] = .command (.putCycle7 0x1C) [] ∧
    decode [0x202D0008] = .command (.putFault 0x2D) [] := by
  decide +kernel

theorem test_decode_put_tmr0 :
    decode [0x20A60100] = .command (.putTmr0 0xA6) [] ∧
    decode [0x20B70101] = .command (.putT0con 0xB7) [] ∧
    decode [0x20C80102] = .command (.putT0stat 0xC8) [] := by
  decide +kernel

theorem test_decode_put_tmr1 :
    decode [0x20A70200] = .command (.putTmr1l 0xA7) [] ∧
    decode [0x20B80201] = .command (.putTmr1h 0xB8) [] ∧
    decode [0x20C90202] = .command (.putT1con 0xC9) [] ∧
    decode [0x20DA0203] = .command (.putT1gcon 0xDA) [] ∧
    decode [0x20EB0204] = .command (.putT1stat 0xEB) [] := by
  decide +kernel

theorem test_decode_put_tmr2 :
    decode [0x20A80300] = .command (.putTmr2 0xA8) [] ∧
    decode [0x20B90301] = .command (.putPr2 0xB9) [] ∧
    decode [0x20CA0302] = .command (.putT2con 0xCA) [] ∧
    decode [0x20DB0303] = .command (.putT2hlt 0xDB) [] ∧
    decode [0x20EC0304] = .command (.putT2clkcon 0xEC) [] ∧
    decode [0x20FD0305] = .command (.putT2rst 0xFD) [] ∧
    decode [0x200E0306] = .command (.putT2stat 0x0E) [] := by
  decide +kernel

theorem test_decode_put_tmr4 :
    decode [0x20A90400] = .command (.putTmr4 0xA9) [] ∧
    decode [0x20BA0401] = .command (.putPr4 0xBA) [] ∧
    decode [0x20CB0402] = .command (.putT4con 0xCB) [] ∧
    decode [0x20DC0403] = .command (.putT4hlt 0xDC) [] ∧
    decode [0x20ED0404] = .command (.putT4clkcon 0xED) [] ∧
    decode [0x20FE0405] = .command (.putT4rst 0xFE) [] ∧
    decode [0x200F0406] = .command (.putT4stat 0x0F) [] := by
  decide +kernel

theorem test_decode_put_tmr6 :
    decode [0x20AA0500] = .command (.putTmr6 0xAA) [] ∧
    decode [0x20BB0501] = .command (.putPr6 0xBB) [] ∧
    decode [0x20CC0502] = .command (.putT6con 0xCC) [] ∧
    decode [0x20DD0503] = .command (.putT6hlt 0xDD) [] ∧
    decode [0x20EE0504] = .command (.putT6clkcon 0xEE) [] ∧
    decode [0x20FF0505] = .command (.putT6rst 0xFF) [] ∧
    decode [0x20100506] = .command (.putT6stat 0x10) [] := by
  decide +kernel

theorem test_decode_put_ccp1 :
    decode [0x20AB0600] = .command (.putCcpr1l 0xAB) [] ∧
    decode [0x20BC0601] = .command (.putCcpr1h 0xBC) [] ∧
    decode [0x20CD0602] = .command (.putCcp1con 0xCD) [] ∧
    decode [0x20DE0603] = .command (.putCcp1tsel 0xDE) [] ∧
    decode [0x20EF0604] = .command (.putPwm1con 0xEF) [] ∧
    decode [0x20000605] = .command (.putCcp1as 0x00) [] ∧
    decode [0x20110606] = .command (.putCcp1stat 0x11) [] ∧
    decode [0x20220607] = .command (.putCcp1pol 0x22) [] := by
  decide +kernel

theorem test_decode_put_ccp2 :
    decode [0x20AC0700] = .command (.putCcpr2l 0xAC) [] ∧
    decode [0x20BD0701] = .command (.putCcpr2h 0xBD) [] ∧
    decode [0x20CE0702] = .command (.putCcp2con 0xCE) [] ∧
    decode [0x20DF0703] = .command (.putCcp2tsel 0xDF) [] ∧
    decode [0x20F00704] = .command (.putPwm2con 0xF0) [] ∧
    decode [0x20010705] = .command (.putCcp2as 0x01) [] ∧
    decode [0x20120706] = .command (.putCcp2stat 0x12) [] ∧
    decode [0x20230707] = .command (.putCcp2pol 0x23) [] := by
  decide +kernel

theorem test_decode_put_osc :
    decode [0x20AD0800] = .command (.putOsccon 0xAD) [] ∧
    decode [0x20BE0801] = .command (.putOsctune 0xBE) [] ∧
    decode [0x20CF0802] = .command (.putOscstat 0xCF) [] := by
  decide +kernel

theorem test_decode_put_clc1 :
    decode [0x20AE0900] = .command (.putClc1con 0xAE) [] ∧
    decode [0x20BF0901] = .command (.putClc1pol 0xBF) [] ∧
    decode [0x20D00902] = .command (.putClc1sel0 0xD0) [] ∧
    decode [0x20E10903] = .command (.putClc1sel1 0xE1) [] ∧
    decode [0x20F20904] = .command (.putClc1sel2 0xF2) [] ∧
    decode [0x20030905] = .command (.putClc1sel3 0x03) [] ∧
    decode [0x20140906] = .command (.putClc1gls0 0x14) [] ∧
    decode [0x20250907] = .command (.putClc1gls1 0x25) [] ∧
    decode [0x20360908] = .command (.putClc1gls2 0x36) [] ∧
    decode [0x20470909] = .command (.putClc1gls3 0x47) [] ∧
    decode [0x2058090A] = .command (.putClc1stat 0x58) [] := by
  decide +kernel

theorem test_decode_put_clc2 :
    decode [0x20AF0A00] = .command (.putClc2con 0xAF) [] ∧
    decode [0x20C00A01] = .command (.putClc2pol 0xC0) [] ∧
    decode [0x20D10A02] = .command (.putClc2sel0 0xD1) [] ∧
    decode [0x20E20A03] = .command (.putClc2sel1 0xE2) [] ∧
    decode [0x20F30A04] = .command (.putClc2sel2 0xF3) [] ∧
    decode [0x20040A05] = .command (.putClc2sel3 0x04) [] ∧
    decode [0x20150A06] = .command (.putClc2gls0 0x15) [] ∧
    decode [0x20260A07] = .command (.putClc2gls1 0x26) [] ∧
    decode [0x20370A08] = .command (.putClc2gls2 0x37) [] ∧
    decode [0x20480A09] = .command (.putClc2gls3 0x48) [] ∧
    decode [0x20590A0A] = .command (.putClc2stat 0x59) [] := by
  decide +kernel

theorem test_decode_put_clc3 :
    decode [0x20B00B00] = .command (.putClc3con 0xB0) [] ∧
    decode [0x20C10B01] = .command (.putClc3pol 0xC1) [] ∧
    decode [0x20D20B02] = .command (.putClc3sel0 0xD2) [] ∧
    decode [0x20E30B03] = .command (.putClc3sel1 0xE3) [] ∧
    decode [0x20F40B04] = .command (.putClc3sel2 0xF4) [] ∧
    decode [0x20050B05] = .command (.putClc3sel3 0x05) [] ∧
    decode [0x20160B06] = .command (.putClc3gls0 0x16) [] ∧
    decode [0x20270B07] = .command (.putClc3gls1 0x27) [] ∧
    decode [0x20380B08] = .command (.putClc3gls2 0x38) [] ∧
    decode [0x20490B09] = .command (.putClc3gls3 0x49) [] ∧
    decode [0x205A0B0A] = .command (.putClc3stat 0x5A) [] := by
  decide +kernel

theorem test_decode_put_clc4 :
    decode [0x20B10C00] = .command (.putClc4con 0xB1) [] ∧
    decode [0x20C20C01] = .command (.putClc4pol 0xC2) [] ∧
    decode [0x20D30C02] = .command (.putClc4sel0 0xD3) [] ∧
    decode [0x20E40C03] = .command (.putClc4sel1 0xE4) [] ∧
    decode [0x20F50C04] = .command (.putClc4sel2 0xF5) [] ∧
    decode [0x20060C05] = .command (.putClc4sel3 0x06) [] ∧
    decode [0x20170C06] = .command (.putClc4gls0 0x17) [] ∧
    decode [0x20280C07] = .command (.putClc4gls1 0x28) [] ∧
    decode [0x20390C08] = .command (.putClc4gls2 0x39) [] ∧
    decode [0x204A0C09] = .command (.putClc4gls3 0x4A) [] ∧
    decode [0x205B0C0A] = .command (.putClc4stat 0x5B) [] := by
  decide +kernel

theorem test_decode_put_nco :
    decode [0x20B20D00] = .command (.putNcoaccl 0xB2) [] ∧
    decode [0x20C30D01] = .command (.putNcoacch 0xC3) [] ∧
    decode [0x20D40D02] = .command (.putNcoaccu 0xD4) [] ∧
    decode [0x20E50D03] = .command (.putNcoincl 0xE5) [] ∧
    decode [0x20F60D04] = .command (.putNcoinch 0xF6) [] ∧
    decode [0x20070D05] = .command (.putNcocon 0x07) [] ∧
    decode [0x20180D06] = .command (.putNcoclk 0x18) [] ∧
    decode [0x20290D07] = .command (.putNcostat 0x29) [] := by
  decide +kernel

theorem test_decode_put_adc :
    decode [0x20B30E00] = .command (.putAdresl 0xB3) [] ∧
    decode [0x20C40E01] = .command (.putAdresh 0xC4) [] ∧
    decode [0x20D50E02] = .command (.putAdcon0 0xD5) [] ∧
    decode [0x20E60E03] = .command (.putAdcon1 0xE6) [] ∧
    decode [0x20F70E04] = .command (.putAdacq 0xF7) [] ∧
    decode [0x20080E05] = .command (.putAdstat 0x08) [] := by
  decide +kernel

/-! ### Single steps: expected results from the examples and tables of spec/ -/

/-- The state after a command that answers a next state. -/
def after (i : Instr) (s : State) : State :=
  match exec i s with
  | .next t => t
  | _ => s

/-- The reset state at cycle `n` with an empty queue and log. -/
def at_ (n : Nat) : State := { State.reset with now := BitVec.ofNat 64 n, queue := [], seq := 0, out := [] }

/-- The reset state with no wired fan-out limit reached, and `t` alone due at the next cycle. -/
def dueAt (t : TrigId) : State := { at_ 0 with queue := [⟨1, 0, t⟩], seq := 1 }

/-- "a newly built block is in the state RESET gives from empty wiring" (R472). -/
theorem test_reset_is_construction : exec .reset (State.blank Cfg.default) = .next State.reset := by
  have h : resetBlock (State.blank Cfg.default) = State.reset := by decide +kernel
  exact congrArg Host.Outcome.next h

/-- R444: "A model is constructed only from a well-formed Cfg (it refuses the others)". -/
theorem test_construct :
    State.construct Cfg.default = some State.reset ∧
    State.construct { Cfg.default with busDepthMax := 0 } = none := by
  have h : resetBlock (State.blank Cfg.default) = State.reset := by decide +kernel
  exact ⟨by rw [State.construct, if_pos test_cfg_default_wf, h], rfl⟩

/-- R474: "no timer counts ... and the only queued event is the oscillator's settle or OST event". -/
theorem test_reset_is_idle :
    State.reset.queue.map (fun e => (e.cycle, e.trig)) = [(1, .oscSettle)] ∧
    readReg .t0stat State.reset = 0 ∧ readReg .osccon State.reset = 0x38 ∧ readReg (.pr .t4) State.reset = 0xFF ∧
    readReg .ncoincl State.reset = 0x01 := by decide +kernel

/-- R349: "after reset with Cfg.FOSC_CFG = INTERNAL: Reply(500000)". -/
theorem test_getfreq_after_reset : (after .getfreq State.reset).out = State.reset.out ++ [.reply 500000] := by
  decide +kernel

/-- R130: "after reset and 3 STEPs, NOW replies 3". -/
theorem test_now_replies : (after .now (at_ 3)).out = [.reply 3] := by decide +kernel

/-- R134: "at now = 7, SCHED EXT3, 7; ADVANCE emits Fire(EXT3, 7)". -/
theorem test_advance_fires :
    (after .advance (after (.sched (.ext 3) 7) (at_ 7))).out = [.fire (.ext 3) 7] := by decide +kernel

/-- R133: a rescheduled trigger fires after every event already queued for its cycle. -/
theorem test_resched_goes_last :
    ((after (.resched (.ext 0) 10) (after (.sched (.ext 1) 10) (after (.sched (.ext 0) 10) (at_ 0)))).queue.map
      (fun e => e.trig)) = [.ext 1, .ext 0] := by decide +kernel

/-- R137: STEP at the top of the counter records CYCLE_WRAP and leaves it there. -/
theorem test_step_at_the_top :
    (after .step (at_ (2 ^ 64 - 1))).now = BitVec.allOnes 64 ∧
    readReg .fault (after .step (at_ (2 ^ 64 - 1))) = 0x02 := by decide +kernel

/-- R131: scheduling a trigger twice raises SCHED_DOUBLE, bit 0 of FAULT. -/
theorem test_sched_double :
    readReg .fault (after (.sched (.ext 5) 9) (after (.sched (.ext 5) 8) (at_ 0))) = 0x01 := by decide +kernel

/-- R82, R446: the angular timer's unit is UNMODELLED (bit 4), another unmapped address BAD_REG (bit 3). -/
theorem test_unmapped_addresses :
    readReg .fault (after (.put 1 0x0F00) (at_ 0)) = 0x10 ∧ readReg .fault (after (.get 0x0009) (at_ 0)) = 0x08 ∧
    (after (.getv 0x1000) (at_ 0)).out = [] := by decide +kernel

/-- R176: "DRIVE 5, H; DRIVE 5, L is a falling edge on pin 5". -/
theorem test_drive_records :
    (after (.drive 5 .L) (after (.drive 5 .H) (at_ 0))).out = [.pin 5 .H 0, .pin 5 .L 0] := by decide +kernel

/-- R177: "after reset every pin reads Z". -/
theorem test_pinrd_z : (after (.pinrd 9) (at_ 0)).out = [.reply 2] := by decide +kernel

/-- R180: an attached host receiver hears the channel; R182: in attach order. -/
theorem test_publish_to_hosts :
    (after (.publish .angPulse 3 1) (after (.attach .angPulse (.host 0)) (after (.attach .angPulse (.host 7)) (at_ 4)))).out
      = [.recv (.host 7) .angPulse 3 1 4, .recv (.host 0) .angPulse 3 1 4] := by decide +kernel

/-- R161: "TMR0 running at divisor 1 from 0 since cycle 0, GET TMR0 at now = 300 replies 44". -/
theorem test_get_tmr0 :
    (after (.get 0x0100) { at_ 300 with t0 := { Timer0.atReset with con := 0x88, run := true } }).out = [.reply 44] := by
  decide +kernel

/-- R211, R213: started at 0xF0 with the divisor 4 (PS = 1), Timer0 overflows after 16 counts, at cycle 64. -/
theorem test_t0_overflow_cycle :
    (after (.putT0con 0x81) (after (.putTmr0 0xF0) (at_ 0))).pending .t0Ovf = some (64, 0) := by decide +kernel

/-- R285's example: Timer1 at prescale 8 from cycle 0, a falling edge at cycle 1000 captures 125. -/
theorem test_capture_125 :
    let s := { at_ 1000 with
      t1 := { Timer1.atReset with con := 0x31, run := true }, ccp1 := { Ccp.atReset with con := 0x04 }
      pins := (at_ 0).pins.set 2 { Pin.unwired with sinks := [.ccpIn .ccp1], ext := .H, lvl := .H } }
    (after (.drive 2 .L) s).ccp1.rh = 0x00 ∧ (after (.drive 2 .L) s).ccp1.rl = 0x7D ∧
    (after (.drive 2 .L) s).out = [.pin 2 .L 1000, .irq (.ccp .ccp1) 1000] := by decide +kernel

/-- R280's example: compare set at 0x0100, output A low at once, the match at cycle 256. -/
theorem test_compare_set :
    let s := { at_ 0 with
      t1 := { Timer1.atReset with con := 0x01, run := true }, ccp2 := { Ccp.atReset with rh := 0x01 } }
    (after (.putCcp2con 0x08) s).ccp2.pin[0] = .L ∧ (after (.putCcp2con 0x08) s).pending .t1Brk = some (256, 0) := by
  decide +kernel

/-- R281's example: Timer1 at 0x0050, a compare value of 0x0040 matches after the rollover. -/
theorem test_compare_behind :
    let s := { at_ 0x50 with
      t1 := { Timer1.atReset with con := 0x01, run := true, cmp := [(.ccp1, 0x0100)] }
      ccp1 := { Ccp.atReset with con := 0x08, rh := 0x00 } }
    (after (.putCcpr1l 0x40) s).t1.cmp = [(.ccp1, 0x0040)] ∧ (after (.putCcpr1l 0x40) s).t1.breakValue = some 65536 := by
  decide +kernel

/-- R282's example: PWM single output high, polarity inverted: the pin goes low and PWM_EDGE 0 is published. -/
theorem test_polarity :
    let s := { (at_ 0).setSubs .pwmEdge [.host 1] with ccp1 := { Ccp.atReset with
      con := 0x0C, out := #v[.H, .L, .L, .L], pin := #v[.H, .Z, .Z, .Z] } }
    (after (.putCcp1pol 0x01) s).ccp1.pin[0] = .L ∧
    (after (.putCcp1pol 0x01) s).out = [.recv (.host 1) .pwmEdge 0 0 0] := by decide +kernel

/-- R310's example: half-bridge, ASE = 1, PSSAC = 01, PSSBD = 00: A forced high, B forced low. -/
theorem test_forced_shutdown :
    let s := { at_ 0 with ccp1 := { Ccp.atReset with
      con := 0x8C, out := #v[.L, .H, .L, .L], pin := #v[.L, .H, .Z, .Z] } }
    (after (.putCcp1as 0x84) s).ccp1.pin = #v[.H, .L, .Z, .Z] ∧ (after (.putCcp1as 0x84) s).ccp1.as = 0x84 := by
  decide +kernel

/-- R295's example: PR2 = 9, DC = 20: the period that starts at cycle 10 is high, its duty match at cycle 15. -/
theorem test_pwm_period :
    let s := { at_ 9 with
      queue := [⟨10, 0, .tBrk .t2⟩], seq := 1
      t2 := { Timer2.atReset with pr := 9, con := 0x80, run := true, breakMask := 1, pwm := [.ccp1] }
      ccp1 := { Ccp.atReset with con := 0x0C, rl := 5, pin := #v[.L, .Z, .Z, .Z] } }
    (after .step s).ccp1.pin[0] = .H ∧ ((after .step s).pending (.tBrk .t2)).map Prod.fst = some 15 := by decide +kernel

/-- R305's example: half-bridge, PDC = 2, the period start at cycle 20 drops B, and A rises two cycles on. -/
theorem test_dead_band :
    let s := { at_ 19 with
      queue := [⟨20, 0, .tBrk .t2⟩], seq := 1
      t2 := { Timer2.atReset with pr := 9, con := 0x80, run := true, anchor := 10, breakMask := 1, pwm := [.ccp1] }
      ccp1 := { Ccp.atReset with
        con := 0x8C, rl := 5, pwmcon := 2, out := #v[.L, .H, .L, .L], pin := #v[.L, .H, .Z, .Z] } }
    (after .step s).ccp1.pin[1] = .L ∧ (after .step s).ccp1.pin[0] = .L ∧
    ((after .step s).pending (.ccpDb .ccp1)).map Prod.fst = some 22 := by decide +kernel

/-- R284: a turn-on of A is pending as `m` falls with PDC = 0: B turns on at once, and A, which "stays L", never does. -/
theorem test_turn_on_replaced :
    let s := { at_ 19 with
      queue := [⟨20, 0, .tBrk .t2⟩, ⟨25, 1, .ccpDb .ccp1⟩], seq := 2
      t2 := { Timer2.atReset with pr := 9, con := 0x80, run := true, anchor := 15, breakMask := 0x08, pwm := [.ccp1] }
      ccp1 := { Ccp.atReset with
        con := 0x8C, rl := 5, dcLatched := 20, dutyArmed := true, mod := .H, dbTarget := some (0, .H)
        pin := #v[.L, .L, .Z, .Z] } }
    (after .step s).ccp1.pin = #v[.L, .H, .Z, .Z] ∧ (after .step s).pending (.ccpDb .ccp1) = none ∧
    (after .step s).ccp1.dbTarget = none := by decide +kernel

/-- R480: a duty of 39 quarter counts ends within the last cycle of a period of 10: "one event, duty first". -/
theorem test_duty_in_the_last_cycle :
    let t : Timer2 := { Timer2.atReset with pr := 9, con := 0x80, run := true, breakMask := 1, pwm := [.ccp1] }
    let u : Ccp := { Ccp.atReset with con := 0x3C, rl := 9, pin := #v[.L, .Z, .Z, .Z] }
    let s := { at_ 9 with queue := [⟨10, 0, .tBrk .t2⟩], seq := 1, t2 := t, ccp1 := u }
    (after .step s).t2.breakMask = 0x09 ∧ ((after .step s).pending (.tBrk .t2)).map Prod.fst = some 20 := by decide +kernel

theorem test_duty_then_period :
    let s := { at_ 19 with
      queue := [⟨20, 0, .tBrk .t2⟩], seq := 1
      t2 := { Timer2.atReset with
        pr := 9, con := 0x80, run := true, anchor := 10, breakMask := 0x09, pwm := [.ccp1] }
      ccp1 := { Ccp.atReset with
        con := 0x3C, rl := 9, dcLatched := 39, dutyArmed := true, mod := .H, out := #v[.H, .L, .L, .L]
        pin := #v[.H, .Z, .Z, .Z] } }
    (after .step s).ccp1.pin[0] = .H ∧ readReg (.tmr .t2) (after .step s) = 0 ∧
    (after .step s).out = [.irq (.tmrx .t2) 20] ∧ ((after .step s).pending (.tBrk .t2)).map Prod.fst = some 30 := by
  decide +kernel

/-- R239: two units' duties at different positions of one cycle are two events in position order (unit 2 at 37 quarter
counts before unit 1 at 39); the period match is one event with the last of them (R480). Receiver 1 hears
PWM_EDGE, whose sub is 4 times the unit's index plus the output's. -/
theorem test_two_duties_then_period :
    let on (x : Level) : Vector Level 4 := #v[x, .L, .L, .L]
    let u (con : Byte) (dc : Nat) : Ccp := { Ccp.atReset with
      con := con, rl := 9, dcLatched := dc, dutyArmed := true, mod := .H, out := on .H, pin := #v[.H, .Z, .Z, .Z] }
    let s := { (at_ 19).setSubs .pwmEdge [.host 1] with
      queue := [⟨20, 0, .tBrk .t2⟩], seq := 1
      t2 := { Timer2.atReset with
        pr := 9, con := 0x80, run := true, anchor := 10, breakMask := 0x11, pwm := [.ccp1, .ccp2] }
      ccp1 := u 0x3C 39, ccp2 := u 0x1C 37 }
    (after .step s).out = [.recv (.host 1) .pwmEdge 4 0 20, .recv (.host 1) .pwmEdge 0 0 20, .irq (.tmrx .t2) 20,
        .recv (.host 1) .pwmEdge 0 1 20, .recv (.host 1) .pwmEdge 4 1 20] ∧
      ((after .step s).pending (.tBrk .t2)).map Prod.fst = some 30 := by
  decide +kernel

/-- R240, R241: a one-shot (MODE 01000, software start) ends at its period match: ON is cleared, the count is 0. -/
theorem test_one_shot_ends :
    let s := { at_ 9 with
      queue := [⟨10, 0, .tBrk .t4⟩], seq := 1
      t4 := { Timer2.atReset with pr := 9, con := 0x80, hlt := 0x08, run := true, armed := true, breakMask := 1 } }
    (after .step s).t4.con = 0x00 ∧ (after .step s).t4.run = false ∧ readReg (.tmr .t4) (after .step s) = 0 ∧
    (after .step s).out = [.irq (.tmrx .t4) 10] := by decide +kernel

/-- R245: the classes of R241's period ends, and of a level reset becoming active. -/
theorem test_period_end_actions :
    hltEndAction (t2Policy Cfg.default 0x08) = .stopZero ∧ hltEndAction (t2Policy Cfg.default 0x11) = .stopZero ∧
    hltEndAction (t2Policy Cfg.default 0x00) = .nop ∧ hltAction (t2Policy Cfg.default 0x06) .H .L = .stopZero := by
  decide +kernel

/-- R105: a block of 11 pins and 4 ADC channels has no pin 11 and no channel 4. -/
theorem test_absent_pin_and_channel :
    let s : State := { at_ 0 with cfg := { Cfg.default with nPin := 11, nAdcCh := 4 } }
    readReg .fault (after (.drive 11 .H) s) = 0x04 ∧ (after (.drive 11 .H) s).pins = s.pins ∧
    (after (.drive 10 .H) s).out = [.pin 10 .H 0] ∧ readReg .fault (after (.setv (.chan 4) 5) s) = 0x04 := by
  decide +kernel

/-- R342's example: internal at 500 kHz, two-speed, to the 8 MHz crystal at cycle 100: still 500 kHz, stable at 1124. -/
theorem test_two_speed_switch :
    let s := { at_ 100 with
      cfg := { Cfg.default with foscCfg := .external, twoSpeed := true }
      osc := { State.reset.osc with con := 0x3A } }
    (after (.putOsccon 0x38) s).osc.fEff = 500000 ∧ (after (.putOsccon 0x38) s).pending .oscOst = some (1124, 0) := by
  decide +kernel

/-- R343, R344: IRCF = 1110 with the PLL is 32 MHz, published at once. -/
theorem test_pll : (after (.putOsccon 0xF0) (at_ 0)).out = [.freq 32000000 0] := by decide +kernel

/-- R345, R348: at the settle event the MF ready bit reads 1. -/
theorem test_settle : readReg .oscstat (after .step (dueAt .oscSettle)) = 0x04 := by decide +kernel

/-- R370's example: CLC1 as a 4-input AND with pin 3 high on input 1: output 1, published. -/
theorem test_clc_and :
    let c : Clc := { Clc.atReset with pol := 0x0E, gls := #v[0x02, 0, 0, 0] }
    let s := { (at_ 0).setSubs .clcOut [.host 0] with
      cfg := { Cfg.default with clcInputTable := List.replicate 4 (List.replicate 64 (.pin 3)) }
      clc1 := c, pins := (at_ 0).pins.set 3 { Pin.unwired with ext := .H, lvl := .H } }
    (after (.putClc1con 0x82) s).clc1.out = true ∧ readReg (.clccon .clc1) (after (.putClc1con 0x82) s) = 0xA2 ∧
    (after (.putClc1con 0x82) s).pins[3].sinks = [.clcIn .clc1 0] ∧
    (after (.putClc1con 0x82) s).out = [.recv (.host 0) .clcOut 1 1 0] := by decide +kernel

/-- R375: with both set and reset, the SR latch is set, the D flip-flop reset. -/
theorem test_cell_priorities :
    cellFunction 3 true false true false false false = (true, true) ∧
    cellFunction 4 true true true true true true = (false, false) ∧
    cellFunction 6 true true false true true true = (false, false) ∧
    cellFunction 7 false true false true false false = (true, true) := by decide

/-- R401's example: increment 0x4000 from 0 at Fosc/4 overflows first at cycle 64. -/
theorem test_nco_overflow_cycle :
    (after (.putNcocon 0x80) { at_ 0 with nco := { Nco.atReset with inc := 0x4000 } }).pending .ncoOvf = some (64, 0) := by
  decide +kernel

/-- R405's example: increment 0x8000 on NCOCLK, the 32nd rising edge overflows and toggles. -/
theorem test_nco_edge_overflow :
    let s := { at_ 0 with
      nco := { Nco.atReset with acc := 0xF8000, inc := 0x8000, con := 0x80, clk := 0x03 }
      pins := (at_ 0).pins.set 1 { Pin.unwired with sinks := [.ncoclk], ext := .L, lvl := .L } }
    (after (.drive 1 .H) s).nco.acc = 0 ∧ (after (.drive 1 .H) s).nco.out = true ∧
    (after (.drive 1 .H) s).out = [.pin 1 .H 0, .irq .nco 0] := by decide +kernel

/-- R424's and R425's examples: 1.25 V of 5 V in ten bits is 256, right- and left-justified. -/
theorem test_adc_scale :
    quantizeSpan 10 (5 / 4) 5 0 = 256 ∧ resultWord 10 true 256 = 0x0100 ∧ resultWord 10 false 256 = 0x4000 := by
  decide +kernel

/-- R420's example: ADACQ = 0 and ADCS = 000, the conversion takes 5 cycles. -/
theorem test_adc_delay : adcDelay State.reset = 5 ∧
    (after (.putAdcon0 0x03) (at_ 0)).pending .adcSeq = some (0, 0) := by decide +kernel

/-- R445: the converter started while disabled warns and clears GO. -/
theorem test_adc_off :
    (after (.putAdcon0 0x02) (at_ 8)).out = [.warn .adcOff 8] ∧ readReg .adcon0 (after (.putAdcon0 0x02) (at_ 8)) = 0 := by
  decide +kernel

/-- R427: "SETV 0xFE, 5000000 sets Vref high to 5 V". -/
theorem test_setv : (after (.setv .vrefHi 5000000) (at_ 0)).vrefhi = 5 := by decide +kernel

/-- R441: writing 1 sets a flag without an interrupt request, writing 0 clears it. -/
theorem test_flag_put :
    readReg (.ccpstat .ccp2) (after (.putCcp2stat 0xFF) (at_ 0)) = 0x01 ∧ (after (.putCcp2stat 0xFF) (at_ 0)).out = [] ∧
    readReg (.ccpstat .ccp2) (after (.putCcp2stat 0xFE) (at_ 0)) = 0x00 := by decide +kernel

/-- R455's example: Timer0 at count 10 reads 10 through the sleep, and overflows 246 cycles after the wake. -/
theorem test_sleep_and_wake :
    let s := { at_ 10 with t0 := { Timer0.atReset with con := 0x88, run := true } }
    readReg .tmr0 { after .sleep s with now := 110 } = 10 ∧
    ((after .wake { after .sleep s with now := 110 }).pending .t0Ovf).map Prod.fst = some 356 := by decide +kernel

/-- R226: the rising edge on T1CKI that wraps the count publishes T1_OVF. -/
theorem test_t1_edge_rollover :
    let s := { (at_ 0).setSubs .t1Ovf [.host 2] with
      t1 := { Timer1.atReset with con := 0xC1, held := 0xFFFF }
      pins := (at_ 0).pins.set 0 { Pin.unwired with sinks := [.t1cki], ext := .L, lvl := .L } }
    (after (.drive 0 .H) s).t1.held = 0 ∧
    (after (.drive 0 .H) s).out = [.pin 0 .H 0, .irq .tmr1 0, .recv (.host 2) .t1Ovf 0 1 0] := by decide +kernel

/-- R170, R171, R377: a cell's output reaches its pin only while its control says OUT. -/
theorem test_cell_pin :
    let s := { at_ 0 with clc1 := { Clc.atReset with con := 0xC0, out := true }
                          pins := (at_ 0).pins.set 4 { Pin.unwired with src := some (.clc .clc1) } }
    (after (.setctl 4 (some (.clc .clc1))) s).pins[4].lvl = .H ∧
    (after (.setctl 4 (some .alwaysIn)) s).pins[4].lvl = .Z := by decide +kernel

/-- The host's question, answered for a row: the table's word for PUT_T0CON runs as the next command. -/
theorem test_fetch_word :
    decodeTableWord 32 0x20880101 = some (.putT0con 0x88) ∧
    step (State.reset.withFetchWord 32 0x20880101) = exec (.putT0con 0x88) State.reset := by
  exact ⟨by decide +kernel, rfl⟩


/-! ### For every obligation with hypotheses, states and operands that meet them: one theorem each, a part a clause -/

/-- `at_ n` with one pin module. -/
def pinAt (n : Nat) (p : PinIx) (m : Pin) : State := { at_ n with pins := (at_ n).pins.set p m }

/-- A wired pin at a level the host drives. -/
def heldPin (l : Level) (sinks : List SinkId) : Pin := { Pin.unwired with sinks := sinks, ext := l, lvl := l }

theorem inv_at (n : Nat) : (at_ n).Inv :=
  ⟨⟨List.Pairwise.nil, List.Pairwise.nil, fun _ h => absurd h (List.not_mem_nil)⟩, rfl, rfl, rfl⟩

theorem inv_alone {s : State} {t : TrigId} {c : Nat} (hq : s.queue = [⟨c, 0, t⟩]) (hs : s.seq = 1)
    (hi : s.idle) : s.Inv := by
  refine ⟨⟨?_, ?_, ?_⟩, hi⟩ <;> simp [hq, hs]

theorem dueNext_alone {s : State} {t : TrigId} (hq : s.queue = [⟨s.now.toNat + 1, 0, t⟩]) (hs : s.seq = 1)
    (hi : s.idle) (hn : s.now ≠ BitVec.allOnes 64) : s.dueNext t [] :=
  ⟨inv_alone hq hs hi, hn, ⟨0, hq⟩, fun _ h => absurd h (List.not_mem_nil)⟩

theorem now_zero : BitVec.ofNat 64 0 ≠ BitVec.allOnes 64 := by decide

theorem dueNext_dueAt (t : TrigId) : (dueAt t).dueNext t [] := dueNext_alone rfl rfl ⟨rfl, rfl, rfl⟩ now_zero

theorem ccpAlone_at (i : CcpId) : (at_ 0).ccpAlone i :=
  ⟨by cases i <;> decide +kernel, by unfold State.hostsOnly; decide +kernel, by decide⟩

theorem running_at : (at_ 0).Running := ⟨rfl, rfl, fun x => by cases x <;> decide +kernel⟩

theorem listed_at : (at_ 0).Listed :=
  ⟨List.nodup_nil, fun i => by cases i <;> decide +kernel, fun x => by cases x <;> exact List.nodup_nil,
    fun x i => by cases x <;> cases i <;> decide +kernel⟩

theorem witness_CommandsDecodeBack :
    (Instr.sched (.ext 31) (BitVec.allOnes 64)).wf = true ∧ (Instr.put 0xFF 0x0009).wf = true := by decide

theorem witness_AcceptedWordsAreEncodings :
    decode [0x04200000, 0, 0, 0x01000000] = .command (.resched (.ext 0) 0) [0x01000000] := by decide

theorem witness_IllegalWords :
    opField 0x07000000 ∉ [0x01, 0x02, 0x03, 0x04, 0x05, 0x06, 0x10, 0x11, 0x12, 0x13, 0x14, 0x15, 0x16, 0x18, 0x19, 0x1A,
      0x20, 0x21, 0x22, 0x28, 0x29, 0x30, 0x31, 0x3F] ∧
    opField 0x01010000 = 0x01 ∧ aField 0x01010000 = 1 ∧ opField 0x3F000001 = 0x3F ∧ bField 0x3F000001 = 1 ∧
    opField 0x04200001 = 0x04 ∧ bField 0x04200001 = 1 ∧ opField 0x10200000 = 0x10 ∧ (aField 0x10200000).toNat = 32 ∧
    opField 0x15000003 = 0x15 ∧ (bField 0x15000003).toNat = 3 ∧ opField 0x021F0000 = 0x02 ∧
    (aField 0x021F0000).toNat = 0x1F ∧ (aField 0x02400000).toNat = 0x40 ∧ opField 0x033F0000 = 0x03 ∧
    opField 0x18010120 = 0x18 ∧ (bField 0x18010120).toNat = 0x0120 ∧ (bField 0x180100FF).toNat = 0x00FF ∧
    opField 0x10000015 = 0x10 ∧ (bField 0x10000015).toNat = 0x15 ∧ (bField 0x1000000F).toNat = 0x0F ∧
    opField 0x11000002 = 0x11 ∧ (bField 0x11000002).toNat = 2 ∧ (bField 0x1100FFFE).toNat = 0xFFFE ∧
    opField 0x12000003 = 0x12 ∧ (bField 0x12000003).toNat = 3 ∧ opField 0x1300000A = 0x13 ∧
    (bField 0x1300000A).toNat = 0x0A ∧ (aField 0x18000100).toNat = 0 ∧ opField 0x190C0100 = 0x19 ∧
    (aField 0x190C0100).toNat = 0x0C ∧
    opField 0x1A0C0000 = 0x1A ∧ (aField 0x1A0C0000).toNat = 0x0C ∧ (aField 0x1A000000).toNat = 0 ∧
    opField 0x28FD0000 = 0x28 ∧ (aField 0x28FD0000).toNat = 0xFD ∧ (aField 0x28200000).toNat = 32 := by decide

theorem witness_StepRunsTheNextCommand :
    decode { at_ 0 with cmds := [0x01000000] }.cmds = .command .now [] ∧
    decode { at_ 0 with cmds := [0x07000000] }.cmds = .illegal .unknownOpcode [] ∧
    decode { at_ 0 with cmds := [0x02200000, 0x00000005] }.cmds = .incomplete ∧ decode (at_ 0).cmds = .incomplete := by
  decide +kernel

theorem witness_EveryCommandRuns : Instr.now ≠ .advance ∧ Instr.now ≠ .step := by decide

theorem witness_StepKeepsInv : (at_ 0).Inv ∧ ∃ t, step (at_ 0) = .next t := ⟨inv_at 0, _, rfl⟩

theorem witness_TimeMovesOnlyByStep :
    (at_ 0).firing = none ∧ (∃ t, exec .now (at_ 0) = .next t) ∧
    ((at_ (2 ^ 64 - 2)).now ≠ BitVec.allOnes 64 ∧ ∃ t, exec .step (at_ (2 ^ 64 - 2)) = .next t) ∧
    ((at_ (2 ^ 64 - 1)).now = BitVec.allOnes 64 ∧ ∃ t, exec .step (at_ (2 ^ 64 - 1)) = .next t) ∧
    ∃ t, exec .reset (at_ 5) = .next t :=
  ⟨rfl, ⟨_, rfl⟩, ⟨by decide, _, rfl⟩, ⟨by decide, _, rfl⟩, _, rfl⟩

theorem witness_LogGrowsFaultsStick :
    let s : State := { at_ 0 with faults := { busDepth := true } }
    s.firing = none ∧ (∃ t, exec (.updpin 0) s = .next t) ∧ s.faults.has .busDepth = true := ⟨rfl, ⟨_, rfl⟩, rfl⟩

theorem witness_PeripheralsLeaveTheWiring :
    (at_ 0).firing = none ∧ (∃ t, exec (putRow 0x88 .t0con) (at_ 0) = .next t) ∧ ∃ t, exec .advance (at_ 0) = .next t :=
  ⟨rfl, ⟨_, rfl⟩, _, rfl⟩

theorem witness_QueriesReplyOnly :
    regOfAddr 0x0000 = some (.cycle 0) ∧ regOfAddr 0x0100 = some .tmr0 ∧ (31 : PinIx).val < (at_ 0).cfg.nPin := by decide

theorem witness_SchedulerHandles :
    (TrigId.ext 0).isExt = true ∧ (at_ 0).pending (.ext 0) = none ∧ (dueAt (.ext 31)).pending (.ext 31) ≠ none ∧
    TrigId.adcSeq.isExt = false := by decide +kernel

theorem witness_AdvanceFiresInOrder :
    let s : State := { at_ 1 with queue := [⟨0, 1, .ext 9⟩, ⟨1, 0, .ext 2⟩, ⟨2, 2, .t0Ovf⟩], seq := 3 }
    s.Inv ∧ ∀ e ∈ s.queue, e.cycle ≤ s.now.toNat → e.trig.isExt = true := by
  unfold State.Inv State.queueOk State.idle; decide +kernel

theorem witness_StepCountsAndAdvances :
    (∀ e ∈ (dueAt .adcSeq).queue, (dueAt .adcSeq).now.toNat < e.cycle) ∧
    (at_ (2 ^ 64 - 1)).now = BitVec.allOnes 64 ∧ (at_ (2 ^ 64 - 2)).now ≠ BitVec.allOnes 64 ∧
    ∀ e ∈ (at_ (2 ^ 64 - 2)).queue, (at_ (2 ^ 64 - 2)).now.toNat + 1 < e.cycle := by decide +kernel

theorem witness_PinCommandsWithoutListeners :
    (31 : PinIx).val < (at_ 0).cfg.nPin ∧ (at_ 0).pins[(31 : PinIx)].sinks = [] ∧
    { at_ 0 with pinDepth := 63 }.pinDepth < (at_ 0).cfg.busDepthMax := by
  decide +kernel

theorem witness_PinCommandsPropagate :
    (31 : PinIx).val < (at_ 0).cfg.nPin ∧ (0 : PinIx).val < { Cfg.default with nPin := 1 }.nPin := by decide

theorem witness_HostWiringCommands :
    (31 : PinIx).val < (at_ 0).cfg.nPin ∧
    SinkId.t1osi.hostWired = true ∧ (SinkId.ccpIn .ccp2).hostWired = true ∧ SinkId.t1g.hostWired = false ∧
    (RecvId.host 31).isHost = true ∧ (RecvId.clcIn .clc1 0).isHost = false := by decide

theorem witness_DriveClocksTimer0 :
    let s (cnt : Nat) (held : Byte) : State := { pinAt 0 7 (heldPin .L [.t0cki]) with
      t0 := { Timer0.atReset with con := 0xA8, held := held, pre := ⟨cnt, 2⟩ } }
    ∀ c ∈ [((1 : Nat), (255 : Byte)), (0, 254), (0, 255)],
      (7 : PinIx).val < (s c.1 c.2).cfg.nPin ∧ (s c.1 c.2).pins[(7 : PinIx)].sinks = [.t0cki] ∧
      (s c.1 c.2).pins[(7 : PinIx)].src = none ∧
      (s c.1 c.2).pins[(7 : PinIx)].lvl ≠ .H ∧ bit (s c.1 c.2).t0.con 7 = true ∧ bit (s c.1 c.2).t0.con 5 = true ∧
      bit (s c.1 c.2).t0.con 4 = false ∧ (∀ r ∈ (s c.1 c.2).subsOf .t0Ovf, r.isHost = true) ∧
      (s c.1 c.2).pinDepth < (s c.1 c.2).cfg.busDepthMax ∧ (s c.1 c.2).busDepth < (s c.1 c.2).cfg.busDepthMax ∧
      (s c.1 c.2).t0.pre.cnt = c.1 ∧ (s c.1 c.2).t0.held = c.2 := by decide +kernel

theorem witness_DriveCaptures :
    let s : State := { pinAt 9 0 (heldPin .H [.ccpIn .ccp2]) with ccp2 := { Ccp.atReset with con := 0x04 } }
    (0 : PinIx).val < s.cfg.nPin ∧ s.pins[(0 : PinIx)].sinks = [.ccpIn .ccp2] ∧ s.pins[(0 : PinIx)].src = none ∧
    s.pins[(0 : PinIx)].lvl = .H ∧ field (s.ccp .ccp2).con 0 4 = 4 ∧ (s.ccp .ccp2).capPre.cnt = 0 ∧ s.pinDepth < s.cfg.busDepthMax := by decide +kernel

theorem witness_PublishFansOut :
    { at_ 0 with busDepth := 64 }.busDepth = (at_ 0).cfg.busDepthMax ∧
    { at_ 0 with busDepth := 63 }.busDepth < (at_ 0).cfg.busDepthMax ∧
    ∀ r ∈ ((at_ 0).setSubs .freq [.host 3]).subsOf .freq, r.isHost = true := by decide +kernel

theorem witness_UnmappedAddresses :
    regOfAddr 0x0009 = none ∧ regOfAddr 0x0F00 = none ∧ regOfAddr 0x0FFF = none ∧ regOfAddr 0x1000 = none := by decide

theorem witness_PutStoresOnlyItsRegister : hasControlByte .t0con = true ∧ Reg.tmr0 ≠ .t0con := by decide

theorem witness_PlainStores : (31 : Fin 32).val < (at_ 0).cfg.nAdcCh := by decide

theorem witness_AdcStartsAndAborts :
    (at_ 0).firing = none ∧ (at_ 0).adc.state = .idle ∧ bit (0x03 : Byte) 1 = true ∧ bit (0x03 : Byte) 0 = true ∧
    bit (at_ 0).adc.con0 1 = false ∧ bit (0x02 : Byte) 0 = false ∧ bit (0x01 : Byte) 1 = false ∧
    { (at_ 0).adc with state := .acquiring, con0 := 0x03 }.state ≠ .idle ∧
    bit { (at_ 0).adc with state := .acquiring, con0 := 0x03 }.con0 1 = true := by decide +kernel

theorem witness_AcquisitionEnds :
    let s : State := { dueAt .adcSeq with adc := { Adc.atReset with con0 := 0x03, state := .acquiring } }
    s.dueNext .adcSeq [] ∧ s.adc.state = .acquiring ∧ 0 < (s.cfg.adcBits + s.cfg.adcGuard + 1) / 2 :=
  ⟨dueNext_alone rfl rfl ⟨rfl, rfl, rfl⟩ now_zero, rfl, by decide⟩

theorem witness_ConversionCompletes :
    let s : State := { (dueAt .adcSeq).setSubs .adcDone [.host 0] with
      adc := { Adc.atReset with con0 := 0x03, state := .converting } }
    s.Inv ∧ s.now ≠ BitVec.allOnes 64 ∧ s.adc.state = .converting ∧ s.queue = ⟨s.now.toNat + 1, 0, .adcSeq⟩ :: [] ∧
    (∀ r ∈ s.subsOf .adcDone, r.isHost = true) ∧ 0 < s.cfg.busDepthMax :=
  ⟨inv_alone rfl rfl ⟨rfl, rfl, rfl⟩, by decide, rfl, rfl, by decide, by decide⟩

theorem witness_PutTmr0Anchors :
    { Timer0.atReset with con := 0x88, run := true }.run = true ∧ (at_ 0).t0.run = false ∧
    (at_ 0).now.toNat + (2 ^ 64 - 1) < 2 ^ 64 := by decide

theorem witness_PutT0conKeepsCount :
    (0x40 : Byte) &&& 0xBF = (at_ 0).t0.con ∧ (0x80 : Byte) &&& 0xBF ≠ (at_ 0).t0.con ∧ bit (0x80 : Byte) 7 = true ∧
    bit (0x80 : Byte) 5 = false ∧ (at_ 0).sleeping = false ∧ (0x08 : Byte) &&& 0xBF ≠ (at_ 0).t0.con ∧
    bit (0x08 : Byte) 7 = false := by decide

theorem witness_Timer0Overflows :
    let s : State := { (dueAt .t0Ovf).setSubs .t0Ovf [.host 9] with
      t0 := { Timer0.atReset with con := 0x88, run := true, anchor := -255 } }
    s.Inv ∧ s.now ≠ BitVec.allOnes 64 ∧ s.queue = ⟨s.now.toNat + 1, 0, .t0Ovf⟩ :: [] ∧
    (∀ r ∈ s.subsOf .t0Ovf, r.isHost = true) ∧ 0 < s.cfg.busDepthMax :=
  ⟨inv_alone rfl rfl ⟨rfl, rfl, rfl⟩, by decide, rfl, by decide, by decide⟩

theorem witness_PutTmr1ReadsBack :
    (after (.putTmr1l 0xFF) (at_ 0)).t1.run = false ∧
    (after (.putTmr1l 0xFF) { at_ 0 with t1 := { Timer1.atReset with con := 0x01, run := true } }).t1.run = true := by
  decide +kernel

theorem witness_PutT1conKeepsCount :
    field (0x0C : Byte) 6 2 = field (at_ 0).t1.con 6 2 ∧ field (0x0C : Byte) 4 2 = field (at_ 0).t1.con 4 2 ∧
    bit (0x0C : Byte) 0 = bit (at_ 0).t1.con 0 := by decide

theorem witness_PutTmrxRestarts :
    let s : State := { at_ 0 with t6 := { Timer2.atReset with con := 0x80, run := true, pr := 4 } }
    let u (v : Byte) : State := after (.putTmr6 v) s
    (after (.putTmr6 0) (at_ 0)).t6.run = false ∧
    ((u 4).t6.run = true ∧ (u 4).t6.ratio = ⟨1, 1⟩ ∧ (u 4).t6.pwm = [] ∧ (4 : Byte).toNat ≤ (u 4).t6.pr.toNat) ∧
    ((u 5).t6.run = true ∧ (u 5).t6.ratio = ⟨1, 1⟩ ∧ (u 5).t6.pwm = [] ∧ ¬ (5 : Byte).toNat ≤ (u 5).t6.pr.toNat) := by
  decide +kernel

theorem witness_PutPeriodAndClockKeepCount : (0xF0 : Byte) &&& 0x0F = (at_ 0).t2.clkcon := by decide

theorem witness_PutTxcon :
    policyReset (t2Policy Cfg.default 0x00) ≠ .levelL ∧ policyReset (t2Policy Cfg.default 0x00) ≠ .levelH ∧
    policyStart (t2Policy Cfg.default 0x08) ≠ .levelL ∧ policyStart (t2Policy Cfg.default 0x08) ≠ .levelH ∧
    (0x80 : Byte) ≠ (at_ 0).t2.con ∧ bit (0x80 : Byte) 7 ≠ bit (at_ 0).t2.con 7 ∧
    bit (0x7F : Byte) 7 = bit (at_ 0).t2.con 7 ∧ (0x7F : Byte) ≠ (at_ 0).t2.con := by decide +kernel

theorem witness_ResetSelectionSubscribes :
    policyReset (t2Policy Cfg.default 0x05) ≠ .levelL ∧ policyReset (t2Policy Cfg.default 0x05) ≠ .levelH := by
  decide +kernel

theorem witness_Timer2PeriodMatch :
    ∀ h ∈ [(0x00 : Byte), 0x08, 0x11],
      let s : State := { at_ 9 with
        queue := [⟨10, 0, .tBrk .t4⟩], seq := 1
        t4 := { Timer2.atReset with pr := 9, con := 0x80, hlt := h, run := true, armed := true, breakMask := 1 } }
      s.Inv ∧ s.now ≠ BitVec.allOnes 64 ∧ s.queue = ⟨s.now.toNat + 1, 0, .tBrk .t4⟩ :: [] ∧ (s.tm .t4).run = true ∧
      t2RunCond s .t4 = true ∧ (s.tm .t4).ratio = ⟨1, 1⟩ ∧ (s.tm .t4).pwm = [] ∧ (s.tm .t4).breakMask = 1 ∧
      (s.tm .t4).anchor + (((s.tm .t4).pr.toNat + 1) * t2Div (s.tm .t4).con : Nat) = (s.now.toNat : Int) + 1 ∧
      (∀ r ∈ s.subsOf .t2Match, r.isHost = true) ∧ 0 < s.cfg.busDepthMax ∧
      policyEnd (t2Policy s.cfg (s.tm .t4).hlt) = (if h = 0 then .free else if h = 8 then .oneshot else .monostable) ∧
      (h = 0x11 → policyStart (t2Policy s.cfg (s.tm .t4).hlt) ≠ .none) := by
  unfold State.Inv State.queueOk State.idle; decide +kernel

/-- Each reaction of R238: reset, stop at zero, start, stop, none. -/
theorem witness_ResetSignalReactions :
    ∀ c ∈ [((0x03 : Byte), Level.L, Level.H, GateResetAction.reset), (0x07, .L, .H, .stopZero), (0x09, .L, .H, .start),
        (0x01, .H, .L, .stop), (0x09, .H, .L, .nop)],
      let s : State := { pinAt 0 8 (heldPin c.2.1 [.tRst .t2]) with
        t2 := { Timer2.atReset with con := 0x80, hlt := c.1, rst := 1, ers := c.2.1 } }
      (8 : PinIx).val < s.cfg.nPin ∧ s.pins[(8 : PinIx)].sinks = [.tRst .t2] ∧ s.pins[(8 : PinIx)].src = none ∧
      t2RstWant s.cfg (s.tm .t2) = some (.pin 8) ∧ c.2.2.1 ≠ .Z ∧ (s.tm .t2).ers ≠ .Z ∧ c.2.2.1 ≠ (s.tm .t2).ers ∧
      s.pins[(8 : PinIx)].lvl ≠ c.2.2.1 ∧ s.pinDepth < s.cfg.busDepthMax ∧
      hltAction (t2Policy s.cfg (s.tm .t2).hlt) (s.tm .t2).ers c.2.2.1 = c.2.2.2 := by decide +kernel

theorem witness_CompareRegisters :
    isCompareMode (ccpMode (at_ 0).ccp1) = false ∧ isCompareMode (ccpMode { (at_ 0).ccp1 with con := 0x0A }) = true ∧
    (at_ 0).t1.run = false ∧
    ({ Timer1.atReset with con := 0x01, run := true } : Timer1).anchor ≤ tin (t1Ratio 0x01) (at_ 0).now.toNat := by
  decide +kernel

theorem witness_CcpModeWrites :
    (∀ i, (at_ 0).ccpAlone i) ∧ field (0x30 : Byte) 0 4 = field (at_ 0).ccp2.con 0 4 ∧
    (∀ b ∈ [(0x04 : Byte), 0x06, 0x07], 4 ≤ field b 0 4 ∧ field b 0 4 < 8) ∧ 12 ≤ field (0x0C : Byte) 0 4 ∧
    isCompareMode (field (0x01 : Byte) 0 4) = true ∧ field (0x4F : Byte) 6 2 ≠ field (at_ 0).ccp1.con 6 2 :=
  ⟨ccpAlone_at, by decide +kernel⟩

theorem witness_OutputsShown : ∀ i, ((at_ 0).setSubs .pwmEdge [.host 5]).ccpAlone i := fun i =>
  ⟨by cases i <;> decide +kernel, by unfold State.hostsOnly; decide +kernel, by decide⟩

theorem witness_ShutdownWrites :
    (∀ i, (at_ 0).ccpAlone i) ∧ (∀ d ∈ (at_ 0).cfg.ccpAsTable, ∀ sub, d ≠ .bus .pwmEdge sub) ∧
    (at_ 0).ccp1.shutdown = false ∧ bit (0x80 : Byte) 7 = true := by
  have h : ∀ d ∈ (at_ 0).cfg.ccpAsTable, (match d with | .bus .pwmEdge _ => false | _ => true) = true := by
    decide +kernel
  exact ⟨ccpAlone_at, fun d hd sub e => by subst e; exact absurd (h _ hd) nofun, rfl, rfl⟩

/-- Each compare mode of R290: toggle, set, clear, interrupt. -/
theorem witness_CompareMatches :
    ∀ con ∈ [(0x01 : Byte), 0x08, 0x09, 0x0A],
      let s : State := { dueAt .t1Brk with
        t1 := { Timer1.atReset with
          con := 0x01, run := true, cmp := [(.ccp2, 1)], breakValue := some 1, breakKind := { cmp2 := true } }
        ccp2 := { Ccp.atReset with con := con, rl := 1 } }
      s.dueNext .t1Brk [] ∧ s.ccpAlone .ccp2 ∧ s.Running ∧ s.t1.run = true ∧ t1Cs s.t1.con = 0 ∧
      s.t1.cmp = [(.ccp2, ccpr (s.ccp .ccp2))] ∧ s.t1.breakValue = some 1 ∧ (ccpr (s.ccp .ccp2)).toNat = 1 ∧
      s.t1.breakKind = { roll := false, cmp1 := decide (CcpId.ccp2 = .ccp1), cmp2 := decide (CcpId.ccp2 = .ccp2) } ∧
      s.t1.anchor + (1 * t1Div s.t1.con : Nat) = ((s.now.toNat + 1 : Nat) : Int) ∧
      field (s.ccp .ccp2).con 0 4 ∈ [1, 8, 9, 10] := by
  intro con hc
  simp only [List.mem_cons, List.not_mem_nil, or_false] at hc
  rcases hc with rfl | rfl | rfl | rfl <;>
    exact ⟨dueNext_alone rfl rfl ⟨rfl, rfl, rfl⟩ now_zero, ccpAlone_at .ccp2,
      ⟨rfl, rfl, fun x => by cases x <;> decide +kernel⟩, rfl, rfl, rfl, rfl, rfl, rfl, by decide +kernel,
      by decide +kernel⟩

/-- Duties of 0, of half a period, of a whole one; either unit. -/
theorem witness_PwmPeriodStarts :
    ∀ c ∈ [(CcpId.ccp1, (0 : Byte), (0x01 : Byte)), (.ccp1, 5, 0x09), (.ccp2, 10, 0x01)],
      let s : State := { at_ 9 with
        queue := [⟨10, 0, .tBrk .t2⟩], seq := 1
        t2 := { Timer2.atReset with pr := 9, con := 0x80, run := true, breakMask := c.2.2, pwm := [c.1] } }.setCcp c.1
          { Ccp.atReset with con := 0x0C, rl := c.2.1, pin := #v[.L, .Z, .Z, .Z] }
      s.dueNext (.tBrk (s.pwmTimer c.1)) [] ∧ s.ccpAlone c.1 ∧ s.hostsOnly .t2Match ∧
      (s.tm (s.pwmTimer c.1)).run = true ∧ t2RunCond s (s.pwmTimer c.1) = true ∧
      policyEnd (t2Policy s.cfg (s.tm (s.pwmTimer c.1)).hlt) = .free ∧ (s.tm (s.pwmTimer c.1)).ratio = ⟨1, 1⟩ ∧
      (s.tm (s.pwmTimer c.1)).pwm = [c.1] ∧ ((s.tm (s.pwmTimer c.1)).breakMask = periodBit ∧
        ((s.ccp c.1).dutyArmed = true → 4 * ((s.tm (s.pwmTimer c.1)).pr.toNat + 1) < (s.ccp c.1).dcLatched) ∨
        (s.tm (s.pwmTimer c.1)).breakMask = dutyBit c.1 ||| periodBit) ∧
      (s.tm (s.pwmTimer c.1)).anchor +
        (((s.tm (s.pwmTimer c.1)).pr.toNat + 1) * t2Div (s.tm (s.pwmTimer c.1)).con : Nat) = ((s.now.toNat + 1 : Nat) : Int) ∧
      12 ≤ field (s.ccp c.1).con 0 4 ∧ field (s.ccp c.1).con 6 2 = 0 ∧ (s.ccp c.1).shutdown = false := by
  unfold State.dueNext State.Inv State.queueOk State.idle State.ccpAlone State.hostsOnly
  intro c hc
  simp only [List.mem_cons, List.not_mem_nil, or_false] at hc
  rcases hc with rfl | rfl | rfl <;>
    exact ⟨⟨by decide +kernel, by decide, ⟨0, rfl⟩, by decide +kernel⟩, ⟨by decide +kernel, by decide +kernel, by decide⟩,
      by decide +kernel, rfl, by decide +kernel, by decide +kernel, rfl, rfl, by decide +kernel, by decide +kernel,
      by decide +kernel, by decide +kernel, rfl⟩

theorem witness_StepKeepsListed : (at_ 0).Listed ∧ ∃ t, step (at_ 0) = .next t := ⟨listed_at, _, rfl⟩

theorem witness_StepKeepsRunning : (at_ 0).Running ∧ ∃ t, step (at_ 0) = .next t := ⟨running_at, _, rfl⟩

/-- The same byte; a switch to the internal RC; a source selected already; a new one from the RC and from another one. -/
theorem witness_OscillatorSwitches :
    (at_ 0).oscAlone ∧ (0x3C : Byte).toNat % 4 = (at_ 0).osc.con.toNat % 4 ∧
    (0x3C : Byte).toNat / 8 % 16 = (at_ 0).osc.con.toNat / 8 % 16 ∧ bit (0x3C : Byte) 7 = bit (at_ 0).osc.con 7 ∧
    (0x3A : Byte).toNat % 4 = 2 ∧ (0x38 : Byte).toNat % 4 = 0 ∧ (at_ 0).cfg.foscCfg ≠ .external ∧
    (0x79 : Byte).toNat % 4 = 1 ∧ (0x79 : Byte).toNat / 8 % 16 ≠ (at_ 0).osc.con.toNat / 8 % 16 ∧
    (at_ 0).osc.state = .intRc ∧
    { (at_ 0).osc with state := .extStable, target := some .secondary }.target = some .secondary ∧
    { (at_ 0).osc with state := .extStable, target := some .primary }.target ≠ some .secondary :=
  ⟨⟨by unfold State.hostsOnly; decide +kernel, by decide, fun x => by cases x <;> decide +kernel⟩, by decide +kernel⟩

theorem witness_OscillatorEvents :
    let s : State := { dueAt .oscOst with osc := { Osc.atReset with state := .ost, target := some .secondary } }
    (s.dueNext .oscOst [] ∧ s.oscAlone ∧ s.osc.state = .ost ∧ s.osc.target = some .secondary) ∧
    ((dueAt .oscOst).dueNext .oscOst [] ∧ (dueAt .oscOst).osc.state ≠ .ost) ∧ (dueAt .oscSettle).dueNext .oscSettle [] :=
  ⟨⟨dueNext_alone rfl rfl ⟨rfl, rfl, rfl⟩ now_zero, ⟨by unfold State.hostsOnly; decide +kernel, by decide,
    fun x => by cases x <;> decide +kernel⟩, rfl, rfl⟩, ⟨dueNext_dueAt _, by decide +kernel⟩, dueNext_dueAt _⟩

theorem witness_NcoWrites : (at_ 0).ncoAlone ∧ (pinAt 0 2 { Pin.unwired with src := some (.clc .clc1) }).ncoAlone := by
  unfold State.ncoAlone State.hostsOnly; decide +kernel

/-- The increment is 0, or not; with a pulse, or without. -/
theorem witness_NcoOverflows :
    ∀ c ∈ [((0 : Half), (0x80 : Byte)), (0x4000, 0x81), (0x4000, 0x90)],
      let s : State := { dueAt .ncoOvf with nco := { Nco.atReset with acc := 0xFC000, inc := c.1, con := c.2 } }
      s.dueNext .ncoOvf [] ∧ s.ncoAlone ∧ ncoRun s = true := by
  intro c hc s
  refine ⟨dueNext_alone rfl rfl ⟨rfl, rfl, rfl⟩ now_zero, witness_NcoWrites.1, ?_⟩
  simp only [List.mem_cons, List.not_mem_nil, or_false] at hc
  rcases hc with rfl | rfl | rfl <;> decide +kernel

theorem witness_CellsSubscribe : ∃ y, Reg.clcsel .clc4 3 = .clcsel .clc4 y := ⟨3, rfl⟩

theorem witness_CellsEvaluate :
    (at_ 0).clcAlone .clc1 ∧ (∀ d ∈ (at_ 0).cfg.clcInputTable.getD ClcId.clc1.idx [], ∀ sub, d ≠ .bus .clcOut sub) ∧
    ∃ k, Reg.clcgls .clc1 3 = .clcgls .clc1 k := by
  have h : ∀ d ∈ (at_ 0).cfg.clcInputTable.getD ClcId.clc1.idx [], d = .low := by decide +kernel
  refine ⟨?_, fun d hd sub => by rw [h d hd]; exact nofun, 3, rfl⟩
  unfold State.clcAlone State.hostsOnly; decide +kernel

theorem witness_SleepFreezes :
    { at_ 0 with sleeping := true }.sleeping = true ∧
    (let s : State := { at_ 7 with t0 := { Timer0.atReset with con := 0x88, run := true } }
     s.sleeping = false ∧ s.Running) :=
  ⟨rfl, rfl, by decide +kernel, by decide +kernel, fun x => by cases x <;> decide +kernel⟩

/-- Asleep with every counter configured to run, Timer2 on the internal RC and past its period; on the internal RC, and set
to an external source. -/
theorem witness_WakeResumes :
    (at_ 0).sleeping = false ∧
    ∀ b ∈ [(0x3A : Byte), 0x39],
      let s : State := { at_ 7 with
        sleeping := true
        t0 := { Timer0.atReset with con := 0x88, held := 3 }
        t1 := { Timer1.atReset with con := 0x71, held := 9, cmp := [(.ccp1, 0x0200)] }
        t2 := { Timer2.atReset with con := 0x80, clkcon := 2, pr := 5, held := 6 }
        nco := { Nco.atReset with con := 0x80, inc := 3, acc := 5 }
        osc := { State.reset.osc with con := b } }
      s.sleeping = true ∧ s.Running ∧ s.hostsOnly .freq ∧ s.busDepth < s.cfg.busDepthMax ∧
      oscSrc s.cfg s.osc.con = (if b = 0x39 then some .secondary else none) ∧
      (let a := { s with sleeping := false }
       t0RunCond a = true ∧ t1RunCond a = true ∧ t2RunCond a .t2 = true ∧ t2RunCond a .t4 = false ∧ ncoRun a = true) := by
  refine ⟨rfl, fun b hb => ?_⟩
  simp only [List.mem_cons, List.not_mem_nil, or_false] at hb
  rcases hb with rfl | rfl <;>
    exact ⟨rfl, ⟨by decide +kernel, by decide +kernel, fun x => by cases x <;> decide +kernel⟩,
      by unfold State.hostsOnly; decide +kernel, by decide, by decide +kernel, by decide +kernel⟩

theorem witness_ResetClears : 0 < (at_ 0).cfg.busDepthMax := by decide

theorem witness_AbsentPinsAndChannels :
    { Cfg.default with nPin := 11 }.nPin ≤ (11 : PinIx).val ∧ { Cfg.default with nAdcCh := 0 }.nAdcCh ≤ (0 : Fin 32).val := by
  decide

end Sys2Proof.Tests
end

section
/-!
Proofs of the statements of 00_scope.md: a command on a pin or channel that the block does not have (R7, R105), and what
every command leaves of the configuration, the log and the faults (R7, R24, R27).
-/

namespace Sys2Proof.Machine

open Sys2Proof

/-! ### Pins and channels that the block does not have -/

/-- ADDSINK and RMSINK of an absent pin: illegal whether or not the host may wire the sink. -/
theorem sink_command_absent {p : PinIx} {s t : State} (wired : Bool) (hp : s.cfg.nPin ≤ p.val) :
    (if wired then onPin p s t else .next (raiseFault .illegalCmd s)) = .next (raiseFault .illegalCmd s) := by
  cases wired with
  | false => rfl
  | true => exact onPin_absent hp

theorem execSetv_absent {ch : Fin 32} {s : State} (uv : Long) (hch : s.cfg.nAdcCh ≤ ch.val) :
    execSetv (.chan ch) uv s = .next (raiseFault .illegalCmd s) := if_neg (Nat.not_lt.2 hch)

/-- Settles O60: every pin command goes through `onPin`, and SETV makes the same check of its channel. -/
theorem absentPinsAndChannels : Obligations.AbsentPinsAndChannels := by
  intro s illegal
  refine ⟨fun p hp => ?_, fun ch uv hch => execSetv_absent uv hch⟩
  have hsink (k : SinkId) (t : State) := sink_command_absent (t := t) k.hostWired hp
  exact ⟨fun _ => onPin_absent hp, fun _ => onPin_absent hp, fun k => hsink k _, fun k => hsink k _,
    onPin_absent hp, fun _ => onPin_absent hp, onPin_absent hp⟩

/-! ### The configuration, the log and the faults -/

/-- What every command but RESET can have done to the record of the run: the configuration stands, the log has grown,
and no fault is gone. Weaker than `Ran`, which also keeps the wiring that the host's own commands change. -/
structure Recorded (s t : State) : Prop where
  cfg : t.cfg = s.cfg
  log : ∃ l, t.out = s.out ++ l
  sticky : ∀ k, s.faults.has k = true → t.faults.has k = true

/-- Wherever the result is a next state, the record of `s` goes on in it. -/
def Records (s : State) (r : Result) : Prop := ∀ t, r = .next t → Recorded s t

theorem cfg_of_ran {s t : State} (h : Ran s t) : t.cfg = s.cfg := by
  simpa [State.wiring, State.blank] using congrArg State.cfg h.wiring

theorem Ran.recorded {s t : State} (h : Ran s t) : Recorded s t := ⟨cfg_of_ran h, h.log, h.sticky⟩

/-- What goes on from a state with the same configuration, log and faults goes on from this one. -/
theorem Recorded.of_same {s u t : State} (h : Recorded u t) (hc : u.cfg = s.cfg) (ho : u.out = s.out)
    (hf : u.faults = s.faults) : Recorded s t :=
  ⟨h.cfg.trans hc, ho ▸ h.log, hf ▸ h.sticky⟩

/-- A change of other fields alone. -/
theorem Recorded.quiet {s t : State} (hc : t.cfg = s.cfg) (ho : t.out = s.out) (hf : t.faults = s.faults) :
    Recorded s t := (Ran.refl t).recorded.of_same hc ho hf

theorem Recorded.next {s u : State} (h : Recorded s u) : Records s (.next u) := by
  rintro t ⟨⟩
  exact h

theorem records_quiet {s u : State} (hc : u.cfg = s.cfg) (ho : u.out = s.out) (hf : u.faults = s.faults) :
    Records s (.next u) := (Recorded.quiet hc ho hf).next

theorem Ran.records {s u : State} (h : Ran s u) : Records s (.next u) := h.recorded.next

theorem records_raiseFault (k : FaultKind) (s : State) : Records s (.next (raiseFault k s)) :=
  (ran_raiseFault k s).records

theorem records_ite {s : State} {p : Prop} [Decidable p] {a b : Result} (ha : Records s a) (hb : Records s b) :
    Records s (if p then a else b) := by split <;> assumption

theorem records_onPin {p : PinIx} {s u : State} (h : Recorded s u) : Records s (onPin p s u) := by
  rcases Nat.lt_or_ge p.val s.cfg.nPin with hp | hp
  · exact onPin_present hp ▸ h.next
  · exact onPin_absent hp ▸ records_raiseFault _ s

/-- A change of a pin's module, as ADDSINK and RMSINK make it. -/
theorem recorded_setPin (s : State) (p : PinIx) (m : Pin) : Recorded s (s.setPin p m) := .quiet rfl rfl rfl

/-- A change of a pin's module and what its `PinDrive` propagates, as SETSRC, SETCTL and DRIVE make it. -/
theorem recorded_setPin_drive (s : State) (p : PinIx) (m : Pin) : Recorded s (signal (.drive p) (s.setPin p m)) :=
  (ran_signal _ _).recorded.of_same rfl rfl rfl

theorem records_setSubs (s : State) (k : ChanKind) (l : List RecvId) : Records s (.next (s.setSubs k l)) :=
  records_quiet rfl rfl rfl

theorem records_execPut (v : Byte) (a : Half) (s : State) : Records s (execPut v a s) := by
  unfold execPut
  split
  · exact (ran_regPut _ v s).records
  · exact records_raiseFault _ s

theorem records_execGet (a : Half) (s : State) : Records s (execGet a s) := by
  unfold execGet
  split
  · exact (ran_emit _ s).records
  · exact records_raiseFault _ s

theorem records_execSetv (ch : AdcInput) (uv : Long) (s : State) : Records s (execSetv ch uv s) := by
  cases ch with
  | chan c => exact records_ite (records_quiet rfl rfl rfl) (records_raiseFault _ s)
  | vrefHi => exact records_quiet rfl rfl rfl
  | vrefLo => exact records_quiet rfl rfl rfl

theorem records_advance {s : State} (hf : s.firing = none) : Records s (advance s) :=
  fun _ h => (ran_advance hf h).recorded

theorem records_stepCycle {s : State} (hf : s.firing = none) : Records s (stepCycle s) :=
  records_ite (records_raiseFault _ s) fun t h =>
    (records_advance (s := { s with now := s.now + 1 }) hf t h).of_same rfl rfl rfl

theorem recorded_goToSleep (s : State) : Recorded s (goToSleep s) := (ran_goToSleep s).recorded.of_same rfl rfl rfl

theorem recorded_wakeUp (s : State) : Recorded s (wakeUp s) := (ran_wakeUp s).recorded.of_same rfl rfl rfl

/-- The record goes on through every command but RESET. -/
theorem exec_records {i : Instr} {s : State} (hf : s.firing = none) (hi : i ≠ .reset) : Records s (exec i s) := by
  cases i with
  | now => exact (ran_emit _ s).records
  | sched t c => exact records_ite (ran_schedule t _ s).records (records_raiseFault _ s)
  | cancel t => exact records_ite (ran_cancel t s).records (records_raiseFault _ s)
  | resched t c => exact records_ite (ran_reschedule t _ s).records (records_raiseFault _ s)
  | advance => exact records_advance hf
  | step => exact records_stepCycle hf
  | setsrc p src => exact records_onPin (recorded_setPin_drive s p _)
  | setctl p ctl => exact records_onPin (recorded_setPin_drive s p _)
  | addsink p k => exact records_ite (records_onPin (recorded_setPin s p _)) (records_raiseFault _ s)
  | rmsink p k => exact records_ite (records_onPin (recorded_setPin s p _)) (records_raiseFault _ s)
  | updpin p => exact records_onPin (ran_signal _ s).recorded
  | drive p l => exact records_onPin (recorded_setPin_drive s p _)
  | pinrd p => exact records_onPin (ran_emit _ s).recorded
  | attach k r => exact records_ite (records_setSubs s k _) (records_raiseFault _ s)
  | detach k r => exact records_ite (records_setSubs s k _) (records_raiseFault _ s)
  | publish k sub v => exact (ran_signal _ s).records
  | put v a => exact records_execPut v a s
  | get a => exact records_execGet a s
  | getv a => exact records_execGet a s
  | setv ch uv => exact records_execSetv ch uv s
  | getfreq => exact (ran_emit _ s).records
  | sleep => exact records_ite (Ran.refl s).records (recorded_goToSleep s).next
  | wake => exact records_ite (recorded_wakeUp s).next (Ran.refl s).records
  | reset => exact absurd rfl hi
  | _ v => exact (ran_regPut _ v s).records

/-- RESET runs the oscillator's derivation and drives every pin from a base that keeps the configuration and the log
(R470, R471); the faults it has cleared in that base. -/
theorem recorded_resetBlock (s : State) : Recorded (resetBase s) (resetBlock s) :=
  ((foldl_ran _ _ (fun s _ => ran_signal _ s) _).after (ran_oscDerive _)).recorded

/-- Settles O10, by `exec_records` and, for RESET, from the base that it builds. -/
theorem logGrowsFaultsStick : Obligations.LogGrowsFaultsStick := by
  intro i s t hf h
  by_cases hi : i = .reset
  · subst hi
    have ht : resetBlock s = t := Host.Outcome.next.inj h
    obtain ⟨hcfg, hlog, -⟩ := ht ▸ recorded_resetBlock s
    exact ⟨hcfg, hlog, fun hne => absurd rfl hne⟩
  · obtain ⟨hcfg, hlog, hsticky⟩ := exec_records hf hi t h
    exact ⟨hcfg, hlog, fun _ => hsticky⟩

end Sys2Proof.Machine
end

section
/-!
Proofs of the statements of 10_state.md about the whole machine: what every command keeps of the clock, the queue and the
nesting bookkeeping (R20, R22, R23, R26), and what the peripherals leave of the wiring (R29, R471).
-/

namespace Sys2Proof.Machine

open Sys2Proof

/-! ### What holds of every answer of a command -/

/-- Every next state that the answer can be has the property. -/
def Ensures (P : State → Prop) (r : Result) : Prop := ∀ t, r = .next t → P t

theorem ensures_next {P : State → Prop} {t : State} (h : P t) : Ensures P (.next t) := by
  rintro _ ⟨⟩
  exact h

theorem ensures_ite {P : State → Prop} {c : Prop} [Decidable c] {a b : Result} (ha : Ensures P a) (hb : Ensures P b) :
    Ensures P (if c then a else b) := by split <;> assumption

theorem ensures_onPin {P : State → Prop} {p : PinIx} {s t : State} (ht : P t) (hs : P (raiseFault .illegalCmd s)) :
    Ensures P (onPin p s t) := by
  rcases Nat.lt_or_ge p.val s.cfg.nPin with hp | hp
  · exact onPin_present hp ▸ ensures_next ht
  · exact onPin_absent hp ▸ ensures_next hs

theorem ensures_execPut {P : State → Prop} (v : Byte) (a : Half) (s : State) (hput : ∀ r, P (regPut r v s))
    (hfault : ∀ k, P (raiseFault k s)) : Ensures P (execPut v a s) := by
  unfold execPut
  split
  · exact ensures_next (hput _)
  · exact ensures_next (hfault _)

theorem ensures_execGet {P : State → Prop} (a : Half) (s : State) (hreply : ∀ v, P (emit (.reply v) s))
    (hfault : ∀ k, P (raiseFault k s)) : Ensures P (execGet a s) := by
  unfold execGet
  split
  · exact ensures_next (hreply _)
  · exact ensures_next (hfault _)

/-- A PUT of a mapped cell is `RegPut` of that cell (R160). -/
theorem exec_putRow (r : Reg) (v : Byte) (s : State) : exec (putRow v r) s = .next (regPut r v s) := by
  cases r with
  | cycle k => fin_cases k <;> rfl
  | clcsel n y => cases n <;> fin_cases y <;> rfl
  | clcgls n k => cases n <;> fin_cases k <;> rfl
  | tmr x | pr x | tcon x | thlt x | tclkcon x | trst x | tstat x => cases x <;> rfl
  | ccprl i | ccprh i | ccpcon i | ccptsel i | pwmcon i | ccpas i | ccpstat i | ccppol i => cases i <;> rfl
  | clccon n | clcpol n | clcstat n => cases n <;> rfl
  | _ => rfl

/-! ### The clock, the queue and the nesting bookkeeping -/

/-- What every command but STEP and RESET keeps: the clock, the bookkeeping of R26, and the queue's structure. Weaker than
`Ran`, which also keeps the wiring that the host's own commands change. -/
structure Paused (s t : State) : Prop where
  now : t.now = s.now
  firing : t.firing = s.firing
  busDepth : t.busDepth = s.busDepth
  pinDepth : t.pinDepth = s.pinDepth
  queueOk : s.queueOk → t.queueOk

theorem Ran.paused {s t : State} (h : Ran s t) : Paused s t := by
  have hw := h.wiring
  refine ⟨?_, firing_of_ran h, ?_, ?_, h.queueOk⟩
  · simpa [State.wiring] using congrArg State.now hw
  · simpa [State.wiring] using congrArg State.busDepth hw
  · simpa [State.wiring] using congrArg State.pinDepth hw

/-- What starts from a state with the same clock, queue and bookkeeping keeps them of this one too. -/
theorem Paused.of_same {s u t : State} (h : Paused u t) (hnow : u.now = s.now) (hfiring : u.firing = s.firing)
    (hbus : u.busDepth = s.busDepth) (hpin : u.pinDepth = s.pinDepth) (hqueue : u.queue = s.queue)
    (hseq : u.seq = s.seq) : Paused s t :=
  ⟨h.now.trans hnow, h.firing.trans hfiring, h.busDepth.trans hbus, h.pinDepth.trans hpin,
    h.queueOk ∘ queueOk_of_eq hqueue hseq⟩

/-- A change of other fields alone. -/
theorem Paused.quiet {s t : State} (hnow : t.now = s.now) (hfiring : t.firing = s.firing)
    (hbus : t.busDepth = s.busDepth) (hpin : t.pinDepth = s.pinDepth) (hqueue : t.queue = s.queue)
    (hseq : t.seq = s.seq) : Paused s t :=
  (Ran.refl t).paused.of_same hnow hfiring hbus hpin hqueue hseq

theorem Paused.inv {s t : State} (h : Paused s t) (hs : s.Inv) : t.Inv := by
  obtain ⟨hq, hfiring, hbus, hpin⟩ := hs
  exact ⟨h.queueOk hq, h.firing.trans hfiring, h.busDepth.trans hbus, h.pinDepth.trans hpin⟩

theorem paused_raiseFault (k : FaultKind) (s : State) : Paused s (raiseFault k s) := (ran_raiseFault k s).paused

theorem paused_setPin (s : State) (p : PinIx) (m : Pin) : Paused s (s.setPin p m) := .quiet rfl rfl rfl rfl rfl rfl

/-- A change of a pin's module and what its `PinDrive` propagates, as SETSRC, SETCTL and DRIVE make it. -/
theorem paused_setPin_drive (s : State) (p : PinIx) (m : Pin) : Paused s (signal (.drive p) (s.setPin p m)) :=
  (ran_signal _ _).paused.of_same rfl rfl rfl rfl rfl rfl

theorem paused_setSubs (s : State) (k : ChanKind) (l : List RecvId) : Paused s (s.setSubs k l) :=
  .quiet rfl rfl rfl rfl rfl rfl

theorem paused_goToSleep (s : State) : Paused s (goToSleep s) :=
  (ran_goToSleep s).paused.of_same rfl rfl rfl rfl rfl rfl

theorem paused_wakeUp (s : State) : Paused s (wakeUp s) := (ran_wakeUp s).paused.of_same rfl rfl rfl rfl rfl rfl

theorem paused_advance {s : State} (hf : s.firing = none) : Ensures (Paused s) (advance s) :=
  fun _ h => (ran_advance hf h).paused

theorem paused_execSetv (ch : AdcInput) (uv : Long) (s : State) : Ensures (Paused s) (execSetv ch uv s) := by
  have hquiet {u : State} := @Paused.quiet s u
  cases ch with
  | chan c => exact ensures_ite (ensures_next (hquiet rfl rfl rfl rfl rfl rfl)) (ensures_next (paused_raiseFault _ s))
  | vrefHi => exact ensures_next (hquiet rfl rfl rfl rfl rfl rfl)
  | vrefLo => exact ensures_next (hquiet rfl rfl rfl rfl rfl rfl)

/-- Time, queue structure and bookkeeping stand through every command but STEP and RESET. -/
theorem exec_paused {i : Instr} {s : State} (hf : s.firing = none) (hstep : i ≠ .step) (hreset : i ≠ .reset) :
    Ensures (Paused s) (exec i s) := by
  have hfault (k : FaultKind) : Paused s (raiseFault k s) := paused_raiseFault k s
  have hemit (r : OutRec) : Paused s (emit r s) := (ran_emit r s).paused
  have hput (r : Reg) (v : Byte) : Paused s (regPut r v s) := (ran_regPut r v s).paused
  have hstand : Paused s s := (Ran.refl s).paused
  cases i with
  | now => exact ensures_next (hemit _)
  | sched t c => exact ensures_ite (ensures_next (ran_schedule t _ s).paused) (ensures_next (hfault _))
  | cancel t => exact ensures_ite (ensures_next (ran_cancel t s).paused) (ensures_next (hfault _))
  | resched t c => exact ensures_ite (ensures_next (ran_reschedule t _ s).paused) (ensures_next (hfault _))
  | advance => exact paused_advance hf
  | step => exact absurd rfl hstep
  | setsrc p src => exact ensures_onPin (paused_setPin_drive s p _) (hfault _)
  | setctl p ctl => exact ensures_onPin (paused_setPin_drive s p _) (hfault _)
  | addsink p k => exact ensures_ite (ensures_onPin (paused_setPin s p _) (hfault _)) (ensures_next (hfault _))
  | rmsink p k => exact ensures_ite (ensures_onPin (paused_setPin s p _) (hfault _)) (ensures_next (hfault _))
  | updpin p => exact ensures_onPin (ran_signal _ s).paused (hfault _)
  | drive p l => exact ensures_onPin (paused_setPin_drive s p _) (hfault _)
  | pinrd p => exact ensures_onPin (hemit _) (hfault _)
  | attach k r => exact ensures_ite (ensures_next (paused_setSubs s k _)) (ensures_next (hfault _))
  | detach k r => exact ensures_ite (ensures_next (paused_setSubs s k _)) (ensures_next (hfault _))
  | publish k sub v => exact ensures_next (ran_signal _ s).paused
  | put v a => exact ensures_execPut v a s (hput · v) hfault
  | get a => exact ensures_execGet a s (fun _ => hemit _) hfault
  | getv a => exact ensures_execGet a s (fun _ => hemit _) hfault
  | setv ch uv => exact paused_execSetv ch uv s
  | getfreq => exact ensures_next (hemit _)
  | sleep => exact ensures_ite (ensures_next hstand) (ensures_next (paused_goToSleep s))
  | wake => exact ensures_ite (ensures_next (paused_wakeUp s)) (ensures_next hstand)
  | reset => exact absurd rfl hreset
  | _ v => exact ensures_next (hput _ v)

/-- STEP below the top of the counter: the clock counts on, and `Advance` keeps what `Paused` says (R137). -/
theorem stepCycle_paused {s t : State} (hf : s.firing = none) (hn : s.now ≠ BitVec.allOnes 64)
    (h : stepCycle s = .next t) : Paused { s with now := s.now + 1 } t := by
  rw [stepCycle, if_neg hn] at h
  exact paused_advance (s := { s with now := s.now + 1 }) hf t h

/-- STEP at the top of the counter (R20, R137). -/
theorem stepCycle_top {s : State} (hn : s.now = BitVec.allOnes 64) : stepCycle s = .next (raiseFault .cycleWrap s) :=
  if_pos hn

/-- RESET keeps the clock at 0 and the bookkeeping empty, as the base that it builds has them (R470). -/
theorem paused_resetBlock (s : State) : Paused (resetBase s) (resetBlock s) :=
  ((foldl_ran _ _ (fun s _ => ran_signal _ s) _).after (ran_oscDerive _)).paused

theorem resetBase_inv (s : State) : (resetBase s).Inv :=
  ⟨⟨.nil, .nil, fun _ h => absurd h List.not_mem_nil⟩, rfl, rfl, rfl⟩

/-- The invariant of R22, R23 and R26 is kept by every command. -/
theorem exec_keeps_inv {i : Instr} {s : State} (hs : s.Inv) : Ensures State.Inv (exec i s) := by
  have hf : s.firing = none := hs.2.1
  intro t h
  by_cases hstep : i = .step
  · subst hstep
    by_cases hn : s.now = BitVec.allOnes 64
    · have ht : raiseFault .cycleWrap s = t := Host.Outcome.next.inj ((stepCycle_top hn).symm.trans h)
      exact ht ▸ (paused_raiseFault _ s).inv hs
    · exact (stepCycle_paused hf hn h).inv hs
  by_cases hreset : i = .reset
  · subst hreset
    have ht : resetBlock s = t := Host.Outcome.next.inj h
    exact ht ▸ (paused_resetBlock s).inv (resetBase_inv s)
  · exact (exec_paused hf hstep hreset t h).inv hs

/-- A step of the machine is a command, or an illegal command, or nothing: what all three keep, a step keeps. -/
theorem step_keeps {P : State → Prop} {s : State} (hs : P s) (hillegal : ∀ rest, P (rejectCommand rest s))
    (hexec : ∀ i rest, Ensures P (exec i (s.consume rest))) : Ensures P (step s) := by
  unfold step
  split
  · exact ensures_next hs
  · exact ensures_next (hillegal _)
  · exact hexec _ _

/-- Settles O7, by `exec_keeps_inv`: a command taken off the stream runs in a state that meets the invariant. -/
theorem stepKeepsInv : Obligations.StepKeepsInv :=
  fun _ t hs => step_keeps hs (fun _ => hs) (fun _ _ => exec_keeps_inv hs) t

/-- Settles O9, by `exec_paused` for the commands that leave the clock and by what STEP and RESET do to it. -/
theorem timeMovesOnlyByStep : Obligations.TimeMovesOnlyByStep := by
  refine ⟨rfl, fun i s t hf h => ⟨fun hstep hreset => (exec_paused hf hstep hreset t h).now, ?_, ?_, ?_⟩⟩
  · rintro rfl hn
    rw [(stepCycle_paused hf hn h).now]
    exact now_succ hn
  · rintro rfl hn
    have ht : raiseFault .cycleWrap s = t := Host.Outcome.next.inj ((stepCycle_top hn).symm.trans h)
    exact ht ▸ ⟨rfl, rfl⟩
  · rintro rfl
    have ht : resetBlock s = t := Host.Outcome.next.inj h
    exact ht ▸ (paused_resetBlock s).now

/-! ### The wiring -/

/-- Settles O11: each of these commands is a register write, a callback's work or a signal, which `Ran` bounds. -/
theorem peripheralsLeaveTheWiring : Obligations.PeripheralsLeaveTheWiring := by
  intro i s t hf h hi
  have hfault (k : FaultKind) : (raiseFault k s).wiring = s.wiring := (ran_raiseFault k s).wiring
  have hemit (r : OutRec) : (emit r s).wiring = s.wiring := (ran_emit r s).wiring
  have hput (v : Byte) (r : Reg) : (regPut r v s).wiring = s.wiring := (ran_regPut r v s).wiring
  have key : Ensures (fun t => t.wiring = s.wiring) (exec i s) := by
    rcases hi with ⟨r, v, rfl⟩ | ⟨v, a, rfl⟩ | ⟨a, rfl⟩ | ⟨a, rfl⟩ | rfl | rfl | ⟨u, c, rfl⟩ | ⟨u, rfl⟩ | ⟨u, c, rfl⟩ | rfl |
      ⟨p, rfl⟩ | ⟨p, rfl⟩ | ⟨k, b, v, rfl⟩
    · exact exec_putRow r v s ▸ ensures_next (hput v r)
    · exact ensures_execPut v a s (hput v) hfault
    · exact ensures_execGet a s (fun _ => hemit _) hfault
    · exact ensures_execGet a s (fun _ => hemit _) hfault
    · exact ensures_next (hemit _)
    · exact ensures_next (hemit _)
    · exact ensures_ite (ensures_next (ran_schedule u _ s).wiring) (ensures_next (hfault _))
    · exact ensures_ite (ensures_next (ran_cancel u s).wiring) (ensures_next (hfault _))
    · exact ensures_ite (ensures_next (ran_reschedule u _ s).wiring) (ensures_next (hfault _))
    · exact fun _ ht => (ran_advance hf ht).wiring
    · exact ensures_onPin (ran_signal _ s).wiring (hfault _)
    · exact ensures_onPin (hemit _) (hfault _)
    · exact ensures_next (ran_signal _ s).wiring
  exact key t h

/-! ### Reset -/

/-- Blank units are in no compare or PWM mode, and the lists of blank timers are empty (R470). -/
theorem listed_of_blank {s : State} (hcmp : s.t1.cmp = []) (hpwm : ∀ x, (s.tm x).pwm = [])
    (hccp : ∀ i, s.ccp i = Ccp.atReset) : s.Listed := by
  refine ⟨by simp [hcmp], fun i => ?_, fun x => by simp [hpwm x], fun x i => ?_⟩
  · rw [hcmp, hccp]
    exact iff_of_false List.not_mem_nil (by decide)
  · rw [hpwm, hccp]
    exact iff_of_false List.not_mem_nil fun h => absurd h.1 (by decide)

/-- Settles O8: the queue after reset holds the oscillator's settle event alone, the units are blank, and no timer is on. -/
theorem resetInv : Obligations.ResetInv :=
  ⟨⟨⟨by decide, by decide, by decide⟩, rfl, rfl, rfl⟩,
    listed_of_blank rfl (fun x => by cases x <;> rfl) (fun i => by cases i <;> rfl),
    by decide, by decide, fun x => by cases x <;> decide⟩

/-! ### The scheduler's handles -/

/-- A trigger without a pending event has no entry for CANCEL to take out (R132). -/
theorem filter_queue_of_not_pending {s : State} {t : TrigId} (h : s.pending t = none) :
    s.queue.filter (fun e => e.trig != t) = s.queue :=
  List.filter_eq_self.2 fun e he => by simpa using (pending_eq_none s t).1 h e he

/-- Settles O13: SCHED by the two cases of `Schedule`, CANCEL and RESCHED by what they leave in the queue. -/
theorem schedulerHandles : Obligations.SchedulerHandles := by
  intro t c s
  have hmem (l : List Event) (e : Event) :
      e ∈ insertEvent ⟨c.toNat, s.seq, t⟩ l ↔ e ∈ l ∨ e = ⟨c.toNat, s.seq, t⟩ :=
    (mem_insertEvent _ _ _).trans or_comm
  have hfilter (e : Event) : e ∈ s.queue.filter (fun e => e.trig != t) ↔ e ∈ s.queue ∧ e.trig ≠ t := by simp
  refine ⟨fun hx hp => ⟨insertEvent ⟨c.toNat, s.seq, t⟩ s.queue, ?_, hmem _⟩, fun hx hp => ?_,
    fun hx => ⟨s.queue.filter (fun e => e.trig != t), if_pos hx, hfilter, List.filter_sublist,
      filter_queue_of_not_pending⟩,
    fun hx => ⟨insertEvent ⟨c.toNat, s.seq, t⟩ (s.queue.filter (fun e => e.trig != t)), ?_, fun e => ?_⟩, fun hx => ?_⟩
  · show execSched t c s = _
    rw [execSched, if_pos hx, schedule, hp]
    rfl
  · show execSched t c s = _
    rw [execSched, if_pos hx, schedule, if_pos (Option.isSome_iff_ne_none.2 hp)]
    rfl
  · show execResched t c s = _
    rw [execResched, if_pos hx, reschedule_with]
  · rw [hmem, hfilter]
  · have hno : ¬ t.isExt = true := by simp [hx]
    exact ⟨if_neg hno, if_neg hno, if_neg hno⟩

end Sys2Proof.Machine
end

section
/-!
Proofs of the statements of 10_state.md about reads: the synthesised counts (R62, R212, R220, R232, R400, R446) and the
status registers (R34, R38, R43, R49, R55, R56, R58, R60, R348).
-/

namespace Sys2Proof.Machine

open Sys2Proof

/-! ### Words as numbers -/

/-- A counter's word, from its anchor while it runs and held while it does not, as a number. -/
theorem toNat_count {w : Nat} (run : Bool) (x : Int) (held : BitVec w) :
    ((if run then BitVec.ofInt w x else held).toNat : Int) = if run then x % 2 ^ w else (held.toNat : Int) := by
  cases run with
  | false => rfl
  | true =>
    have hpos : (0 : Int) < 2 ^ w := by positivity
    have hnn : 0 ≤ x % 2 ^ w := Int.emod_nonneg _ hpos.ne'
    simp [BitVec.toNat_ofInt, hnn]

theorem toNat_extract_byte (v : Long) (k : Nat) : (v.extractLsb' (8 * k) 8).toNat = v.toNat / 256 ^ k % 256 := by
  rw [BitVec.extractLsb'_toNat, Nat.shiftRight_eq_div_pow, pow_mul]
  norm_num

/-- A 16-bit word is its two bytes (R8). -/
theorem toNat_bytes (v : Half) : (highByte v).toNat * 256 + (lowByte v).toNat = v.toNat := by
  have := v.isLt
  simp only [highByte, lowByte, BitVec.extractLsb'_toNat, Nat.shiftRight_eq_div_pow]
  omega

/-- The NCO's 20-bit accumulator is the nibble and the two bytes that its cells read (R57). -/
theorem toNat_accumulator (v : BitVec 20) :
    ((v.extractLsb' 16 4).setWidth 8).toNat * 65536 + (v.extractLsb' 8 8).toNat * 256 + (v.extractLsb' 0 8).toNat =
      v.toNat := by
  have := v.isLt
  simp only [BitVec.toNat_setWidth, BitVec.extractLsb'_toNat, Nat.shiftRight_eq_div_pow]
  omega

/-! ### Bits of a byte -/

theorem bit_or (a b : Byte) (j : Nat) : bit (a ||| b) j = (bit a j || bit b j) := BitVec.getLsbD_or

/-- Bit `i` of a status byte is its flag, every other bit is 0. -/
theorem bit_statBit (i : Nat) (b : Bool) (j : Fin 8) : bit (statBit i b) j = (decide (j.val = i) && b) := by
  have hj := j.isLt
  cases b with
  | false => simp [statBit, bit]
  | true =>
    simp only [statBit, bit, if_pos, BitVec.getLsbD_shiftLeft, BitVec.getLsbD_one, hj, decide_true, Bool.true_and,
      Bool.and_true]
    by_cases h : j.val < i <;> simp [h] <;> omega

/-- Bit `j` of FAULT is the membership of fault kind `j` (R446). -/
theorem bit_toByte (f : FaultSet) (j : Fin 8) :
    bit f.toByte j =
      (match j.val with
       | 0 => f.schedDouble | 1 => f.cycleWrap | 2 => f.illegalCmd | 3 => f.badReg | 4 => f.unmodelled | 5 => f.busDepth
       | _ => false) := by
  obtain ⟨a, b, c, d, e, g⟩ := f
  revert a b c d e g j
  decide +kernel

/-- OSCSTAT as its status bits; the bit of the high-frequency tier stands twice (R348). -/
theorem oscStat_bits (hf lf mf ost pll : Bool) :
    BitVec.ofNat 8 (natOfBool hf + 2 * natOfBool lf + 4 * natOfBool mf + 16 * natOfBool hf + 32 * natOfBool ost +
        64 * natOfBool pll) =
      statBit 0 hf ||| statBit 1 lf ||| statBit 2 mf ||| statBit 4 hf ||| statBit 5 ost ||| statBit 6 pll := by
  revert hf lf mf ost pll; decide

/-! ### The cells -/

/-- Settles O23: each count by `toNat_count`, put together from its cells' bytes. -/
theorem synthesisedReads : Obligations.SynthesisedReads := by
  intro s
  refine ⟨fun k => toNat_extract_byte s.now k, fun j => bit_toByte s.faults j, toNat_count _ _ _, ?_,
    fun x => toNat_count _ _ _, ?_⟩
  · have hbytes : ((highByte (t1Count s)).toNat : Int) * 256 + ((lowByte (t1Count s)).toNat : Int) = (t1Count s).toNat :=
      mod_cast toNat_bytes (t1Count s)
    exact hbytes.trans (toNat_count _ _ _)
  · have hparts : ((((accNow s).extractLsb' 16 4).setWidth 8).toNat : Int) * 65536 +
        (((accNow s).extractLsb' 8 8).toNat : Int) * 256 + (((accNow s).extractLsb' 0 8).toNat : Int) = (accNow s).toNat :=
      mod_cast toNat_accumulator (accNow s)
    exact hparts.trans (toNat_count _ _ _)

/-- Settles O24: every status register is a disjunction of `statBit`s, read bit by bit. -/
theorem statusReads : Obligations.StatusReads := by
  intro s ok tier
  have hflag (b : Bool) (j : Fin 8) : bit (statBit 0 b) j = (decide (j = 0) && b) := by
    rw [bit_statBit, decide_eq_decide.2 Fin.val_eq_zero_iff]
  have hout (a : Byte) (ha : bit a 5 = false) (b : Bool) : bit (a ||| statBit 5 b) 5 = b := by
    rw [bit_or, ha, Bool.false_or]
    exact bit_statBit 5 b 5
  refine ⟨hflag _, fun j => ?_, fun x j => ?_, fun i j => ?_, fun n => hout _ ?_ _, fun n => hflag _, hout _ ?_ _, hflag _,
    hflag _, fun j => ?_⟩
  · show bit (t1Stat s) j = _
    simp only [t1Stat, bit_or, bit_statBit]
    fin_cases j <;> simp [t1Runs]
  · show bit (tStat s x) j = _
    simp only [tStat, bit_or, bit_statBit]
    fin_cases j <;> simp
  · show bit (ccpStat (s.ccp i)) j = _
    simp only [ccpStat, bit_or, bit_statBit]
    fin_cases j <;> simp [isHigh]
  · simp [bit]
  · simp [bit]
  · show bit (oscStat s) j = _
    simp only [oscStat, oscStat_bits, bit_or, bit_statBit]
    fin_cases j <;> simp [ok, tier, intRcRuns, ircfEntry, oscIrcf, oscPll]

end Sys2Proof.Machine
end

section
/-!
The bytes and lists that stand: what a pin change, a bus delivery, a restart of a counter or a subscription leaves of the
control registers (10_state.md R28, R160) and of the timers' lists of CCP units (R35, R39).
-/

namespace Sys2Proof.Machine

open Sys2Proof

/-! ### The control bytes, unit by unit -/

/-- The bits of a control register that only a PUT of it writes. -/
def steadyByte (s : State) (q : Reg) : Byte := controlByte s q &&& steadyBits q

theorem byte_and_all (b : Byte) : b &&& 0xFF = b := BitVec.and_allOnes

theorem field_setTm {α : Type} (f : Timer2 → α) {s : State} {x y : T2Id} {u : Timer2} (h : y = x → f u = f (s.tm x)) :
    f ((s.setTm x u).tm y) = f (s.tm y) := by
  by_cases hy : y = x
  · rw [hy, setTm_tm_same, h hy]
  · rw [setTm_tm_other _ _ _ _ hy]

theorem field_setCcp {α : Type} (f : Ccp → α) {s : State} {i j : CcpId} {u : Ccp} (h : j = i → f u = f (s.ccp i)) :
    f ((s.setCcp i u).ccp j) = f (s.ccp j) := by
  by_cases hj : j = i
  · rw [hj, setCcp_ccp_same, h hj]
  · rw [setCcp_ccp_other _ _ _ _ hj]

theorem field_setClc {α : Type} (f : Clc → α) {s : State} {n m : ClcId} {c : Clc} (h : m = n → f c = f (s.clc n)) :
    f ((s.setClc n c).clc m) = f (s.clc m) := by
  by_cases hm : m = n
  · rw [hm, setClc_clc_same, h hm]
  · rw [setClc_clc_other _ _ _ _ hm]

section
variable {s : State} {q : Reg}

theorem steadyByte_t0 {u : Timer0} (hcon : q = .t0con → u.con = s.t0.con) :
    steadyByte { s with t0 := u } q = steadyByte s q := by
  cases q with
  | t0con => exact congrArg (· &&& _) (hcon rfl)
  | _ => rfl

theorem steadyByte_t1 {u : Timer1} (hcon : q = .t1con → u.con = s.t1.con) (hgcon : q = .t1gcon → u.gcon = s.t1.gcon) :
    steadyByte { s with t1 := u } q = steadyByte s q := by
  cases q with
  | t1con => exact congrArg (· &&& _) (hcon rfl)
  | t1gcon => exact congrArg (· &&& _) (hgcon rfl)
  | _ => rfl

theorem steadyByte_setTm {x : T2Id} {u : Timer2} (hpr : q = .pr x → u.pr = (s.tm x).pr)
    (hcon : q = .tcon x → u.con = (s.tm x).con) (hhlt : q = .thlt x → u.hlt = (s.tm x).hlt)
    (hclkcon : q = .tclkcon x → u.clkcon = (s.tm x).clkcon) (hrst : q = .trst x → u.rst = (s.tm x).rst) :
    steadyByte (s.setTm x u) q = steadyByte s q := by
  cases q with
  | pr y => exact congrArg (· &&& _) (field_setTm Timer2.pr fun e => hpr (e ▸ rfl))
  | tcon y => exact congrArg (· &&& _) (field_setTm Timer2.con fun e => hcon (e ▸ rfl))
  | thlt y => exact congrArg (· &&& _) (field_setTm Timer2.hlt fun e => hhlt (e ▸ rfl))
  | tclkcon y => exact congrArg (· &&& _) (field_setTm Timer2.clkcon fun e => hclkcon (e ▸ rfl))
  | trst y => exact congrArg (· &&& _) (field_setTm Timer2.rst fun e => hrst (e ▸ rfl))
  | _ => simp [steadyByte, controlByte, storedByte]

theorem steadyByte_setCcp {i : CcpId} {u : Ccp} (hcon : q = .ccpcon i → u.con = (s.ccp i).con)
    (htsel : q = .ccptsel i → u.tsel = (s.ccp i).tsel) (hpwmcon : q = .pwmcon i → u.pwmcon = (s.ccp i).pwmcon)
    (has : q = .ccpas i → u.as &&& 0x7F = (s.ccp i).as &&& 0x7F) (hpol : q = .ccppol i → u.pol = (s.ccp i).pol) :
    steadyByte (s.setCcp i u) q = steadyByte s q := by
  cases q with
  | ccpcon j => exact congrArg (· &&& _) (field_setCcp Ccp.con fun e => hcon (e ▸ rfl))
  | ccptsel j => exact congrArg (· &&& _) (field_setCcp Ccp.tsel fun e => htsel (e ▸ rfl))
  | pwmcon j => exact congrArg (· &&& _) (field_setCcp Ccp.pwmcon fun e => hpwmcon (e ▸ rfl))
  | ccpas j => exact field_setCcp (fun c => c.as &&& 0x7F) fun e => has (e ▸ rfl)
  | ccppol j => exact congrArg (· &&& _) (field_setCcp Ccp.pol fun e => hpol (e ▸ rfl))
  | _ => simp [steadyByte, controlByte, storedByte, steadyBits]

theorem steadyByte_osc {u : Osc} (hcon : q = .osccon → u.con = s.osc.con) (htune : q = .osctune → u.tune = s.osc.tune) :
    steadyByte { s with osc := u } q = steadyByte s q := by
  cases q with
  | osccon => exact congrArg (· &&& _) (hcon rfl)
  | osctune => exact congrArg (· &&& _) (htune rfl)
  | _ => rfl

theorem steadyByte_setClc {n : ClcId} {c : Clc} (hcon : q = .clccon n → c.con = (s.clc n).con)
    (hpol : q = .clcpol n → c.pol = (s.clc n).pol) (hsel : ∀ y, q = .clcsel n y → c.sel[y] = (s.clc n).sel[y])
    (hgls : ∀ k, q = .clcgls n k → c.gls[k] = (s.clc n).gls[k]) :
    steadyByte (s.setClc n c) q = steadyByte s q := by
  cases q with
  | clccon m => exact congrArg (· &&& _) (field_setClc Clc.con fun e => hcon (e ▸ rfl))
  | clcpol m => exact congrArg (· &&& _) (field_setClc Clc.pol fun e => hpol (e ▸ rfl))
  | clcsel m y => exact congrArg (· &&& _) (field_setClc (·.sel[y]) fun e => hsel y (e ▸ rfl))
  | clcgls m k => exact congrArg (· &&& _) (field_setClc (·.gls[k]) fun e => hgls k (e ▸ rfl))
  | _ => simp [steadyByte, controlByte, storedByte]

theorem steadyByte_nco {u : Nco} (hincl : q = .ncoincl → lowByte u.inc = lowByte s.nco.inc)
    (hinch : q = .ncoinch → highByte u.inc = highByte s.nco.inc) (hcon : q = .ncocon → u.con = s.nco.con)
    (hclk : q = .ncoclk → u.clk = s.nco.clk) : steadyByte { s with nco := u } q = steadyByte s q := by
  cases q with
  | ncoincl => exact congrArg (· &&& _) (hincl rfl)
  | ncoinch => exact congrArg (· &&& _) (hinch rfl)
  | ncocon => exact congrArg (· &&& _) (hcon rfl)
  | ncoclk => exact congrArg (· &&& _) (hclk rfl)
  | _ => rfl

theorem steadyByte_adc {u : Adc} (hresl : q = .adresl → u.resl = s.adc.resl) (hresh : q = .adresh → u.resh = s.adc.resh)
    (hcon0 : q = .adcon0 → u.con0 &&& 0xFD = s.adc.con0 &&& 0xFD) (hcon1 : q = .adcon1 → u.con1 = s.adc.con1)
    (hacq : q = .adacq → u.acq = s.adc.acq) : steadyByte { s with adc := u } q = steadyByte s q := by
  cases q with
  | adresl => exact congrArg (· &&& _) (hresl rfl)
  | adresh => exact congrArg (· &&& _) (hresh rfl)
  | adcon0 => exact hcon0 rfl
  | adcon1 => exact congrArg (· &&& _) (hcon1 rfl)
  | adacq => exact congrArg (· &&& _) (hacq rfl)
  | _ => rfl

/-- What no pin change and no bus delivery writes is part of the configuration. -/
theorem steadyByte_config : steadyByte s.config q = steadyByte s q := by
  cases q with
  | pr x | tcon x | thlt x | tclkcon x | trst x => cases x <;> rfl
  | ccpcon i | ccptsel i | pwmcon i | ccppol i => cases i <;> rfl
  | ccpas i => cases i <;> exact BitVec.and_assoc _ _ _
  | clccon n | clcpol n | clcsel n y | clcgls n k => cases n <;> rfl
  | adcon0 => exact BitVec.and_assoc _ _ _
  | _ => simp [steadyByte, controlByte, storedByte, steadyBits, State.config, Timer0.config, Timer1.config, Nco.config,
      Adc.config]

end

/-! ### The lists -/

/-- The timers' lists and what they are lists of: the units in Timer1's compare list, those in each PWM timer's list, and
each unit's mode and timer. -/
structure SameLists (s t : State) : Prop where
  compares : t.t1.cmp.map Prod.fst = s.t1.cmp.map Prod.fst
  pwm : ∀ x, (t.tm x).pwm = (s.tm x).pwm
  mode : ∀ i, ccpMode (t.ccp i) = ccpMode (s.ccp i)
  ptsel : ∀ i, ccpPtsel (t.ccp i) = ccpPtsel (s.ccp i)

theorem SameLists.refl (s : State) : SameLists s s := ⟨rfl, fun _ => rfl, fun _ => rfl, fun _ => rfl⟩

theorem SameLists.trans {s t u : State} (a : SameLists s t) (b : SameLists t u) : SameLists s u :=
  ⟨b.compares.trans a.compares, fun x => (b.pwm x).trans (a.pwm x), fun i => (b.mode i).trans (a.mode i),
    fun i => (b.ptsel i).trans (a.ptsel i)⟩

theorem SameLists.after {s t u : State} (b : SameLists t u) (a : SameLists s t) : SameLists s u := a.trans b

theorem SameLists.pwmTimer {s t : State} (h : SameLists s t) (i : CcpId) : t.pwmTimer i = s.pwmTimer i :=
  congrArg ptselTimer (h.ptsel i)

theorem SameLists.listed {s t : State} (h : SameLists s t) (hs : s.Listed) : t.Listed := by
  unfold State.Listed at *
  simpa only [h.compares, h.pwm, h.mode, h.pwmTimer] using hs

theorem sameLists_ite {s : State} {c : Prop} [Decidable c] {a b : State} (ha : SameLists s a) (hb : SameLists s b) :
    SameLists s (if c then a else b) := by split <;> assumption

theorem sameLists_setTm {s : State} {x : T2Id} {u : Timer2} (h : u.pwm = (s.tm x).pwm) : SameLists s (s.setTm x u) :=
  ⟨by simp, fun _ => field_setTm Timer2.pwm fun _ => h, fun _ => by simp, fun _ => by simp⟩

theorem sameLists_setCcp {s : State} {i : CcpId} {u : Ccp} (hmode : ccpMode u = ccpMode (s.ccp i))
    (hptsel : ccpPtsel u = ccpPtsel (s.ccp i)) : SameLists s (s.setCcp i u) :=
  ⟨by simp, fun _ => by simp, fun _ => field_setCcp ccpMode fun _ => hmode, fun _ => field_setCcp ccpPtsel fun _ => hptsel⟩

/-! ### Both together -/

/-- Every control byte stands, but for the bits that hardware may write, and so do the timers' lists. -/
structure Stands (s t : State) : Prop where
  bytes : ∀ q, steadyByte t q = steadyByte s q
  compares : t.t1.cmp.map Prod.fst = s.t1.cmp.map Prod.fst
  pwm : ∀ x, (t.tm x).pwm = (s.tm x).pwm

theorem Stands.refl (s : State) : Stands s s := ⟨fun _ => rfl, rfl, fun _ => rfl⟩

theorem Stands.trans {s t u : State} (a : Stands s t) (b : Stands t u) : Stands s u :=
  ⟨fun q => (b.bytes q).trans (a.bytes q), b.compares.trans a.compares, fun x => (b.pwm x).trans (a.pwm x)⟩

theorem Stands.after {s t u : State} (b : Stands t u) (a : Stands s t) : Stands s u := a.trans b

theorem con_of_bytes {s t : State} (h : ∀ q, steadyByte t q = steadyByte s q) (i : CcpId) :
    (t.ccp i).con = (s.ccp i).con := by
  simpa only [steadyByte, controlByte, storedByte, steadyBits, byte_and_all] using h (.ccpcon i)

theorem tsel_of_bytes {s t : State} (h : ∀ q, steadyByte t q = steadyByte s q) (i : CcpId) :
    (t.ccp i).tsel = (s.ccp i).tsel := by
  simpa only [steadyByte, controlByte, storedByte, steadyBits, byte_and_all] using h (.ccptsel i)

theorem Stands.sameLists {s t : State} (h : Stands s t) : SameLists s t :=
  ⟨h.compares, h.pwm, fun i => congrArg (field · 0 4) (con_of_bytes h.bytes i),
    fun i => congrArg (field · 0 2) (tsel_of_bytes h.bytes i)⟩

theorem Signalled.stands {s t : State} (h : Signalled s t) : Stands s t := by
  refine ⟨fun q => ?_, ?_, fun x => ?_⟩
  · rw [← steadyByte_config, h.config, steadyByte_config]
  · have hcmp := congrArg (fun u : State => u.t1.cmp.map Prod.fst) h.config
    exact hcmp
  · have hpwm := congrArg (fun u : State => (u.tm x).pwm) h.config
    cases x <;> exact hpwm

theorem stands_ite {s : State} {c : Prop} [Decidable c] {a b : State} (ha : Stands s a) (hb : Stands s b) :
    Stands s (if c then a else b) := by split <;> assumption

theorem stands_foldl {α : Type} (f : State → α → State) (l : List α) (h : ∀ s a, Stands s (f s a)) (s : State) :
    Stands s (l.foldl f s) := by
  induction l generalizing s with
  | nil => exact .refl s
  | cons a l ih => exact (h s a).trans (ih _)

/-- The peripheral units of the block. -/
def State.units (s : State) :
    Timer0 × Timer1 × (T2Id → Timer2) × (CcpId → Ccp) × Osc × (ClcId → Clc) × Nco × Adc :=
  (s.t0, s.t1, s.tm, s.ccp, s.osc, s.clc, s.nco, s.adc)

/-- A change beside the units: the queue, the log, the faults, the wiring, the clock. -/
theorem stands_of_units {s t : State} (h : t.units = s.units) : Stands s t := by
  simp only [State.units, Prod.mk.injEq] at h
  obtain ⟨h0, h1, htm, hccp, hosc, hclc, hnco, hadc⟩ := h
  refine ⟨fun q => ?_, by rw [h1], fun x => by rw [htm]⟩
  cases q <;> simp only [steadyByte, controlByte, storedByte, h0, h1, htm, hccp, hosc, hclc, hnco, hadc]

theorem stands_emit (r : OutRec) (s : State) : Stands s (emit r s) := stands_of_units rfl
theorem stands_raiseFault (k : FaultKind) (s : State) : Stands s (raiseFault k s) := stands_of_units rfl
theorem stands_cancel (t : TrigId) (s : State) : Stands s (cancel t s) := stands_of_units rfl

theorem stands_schedule (t : TrigId) (c : Nat) (s : State) : Stands s (schedule t c s) := by
  rcases schedule_cases t c s with ⟨-, e⟩ | ⟨-, e⟩ <;> rw [e] <;> exact stands_of_units rfl

theorem stands_reschedule (t : TrigId) (c : Nat) (s : State) : Stands s (reschedule t c s) :=
  (stands_schedule _ _ _).after (stands_cancel t s)

theorem stands_wiring (s : State) (pins : Vector Pin 32) (subs : Vector (List RecvId) 11) :
    Stands s { s with pins := pins, subs := subs } := stands_of_units rfl

theorem stands_resubscribe (k : SinkId) (r : RecvId) (want : Option SigDesc) (s : State) :
    Stands s (resubscribe k r want s) := stands_wiring s _ _

theorem stands_raiseIfRefused (want : Option SigDesc) (s : State) : Stands s (raiseIfRefused want s) :=
  stands_ite (stands_raiseFault _ s) (.refl s)

theorem stands_signal (x : Signal) (s : State) : Stands s (signal x s) := (sig_signal x s).stands

theorem stands_t0 {s : State} {u : Timer0} (hcon : u.con = s.t0.con := by rfl) : Stands s { s with t0 := u } :=
  ⟨fun _ => steadyByte_t0 fun _ => hcon, rfl, fun _ => rfl⟩

theorem stands_t1 {s : State} {u : Timer1} (hcon : u.con = s.t1.con := by rfl) (hgcon : u.gcon = s.t1.gcon := by rfl)
    (hcmp : u.cmp.map Prod.fst = s.t1.cmp.map Prod.fst := by rfl) : Stands s { s with t1 := u } :=
  ⟨fun _ => steadyByte_t1 (fun _ => hcon) fun _ => hgcon, hcmp, fun _ => rfl⟩

theorem stands_setTm {s : State} {x : T2Id} {u : Timer2} (hpr : u.pr = (s.tm x).pr := by rfl)
    (hcon : u.con = (s.tm x).con := by rfl) (hhlt : u.hlt = (s.tm x).hlt := by rfl)
    (hclkcon : u.clkcon = (s.tm x).clkcon := by rfl) (hrst : u.rst = (s.tm x).rst := by rfl)
    (hpwm : u.pwm = (s.tm x).pwm := by rfl) : Stands s (s.setTm x u) :=
  ⟨fun _ => steadyByte_setTm (fun _ => hpr) (fun _ => hcon) (fun _ => hhlt) (fun _ => hclkcon) fun _ => hrst, by simp,
    fun _ => field_setTm Timer2.pwm fun _ => hpwm⟩

theorem stands_setCcp {s : State} {i : CcpId} {u : Ccp} (hcon : u.con = (s.ccp i).con := by rfl)
    (htsel : u.tsel = (s.ccp i).tsel := by rfl) (hpwmcon : u.pwmcon = (s.ccp i).pwmcon := by rfl)
    (has : u.as = (s.ccp i).as := by rfl) (hpol : u.pol = (s.ccp i).pol := by rfl) :
    Stands s (s.setCcp i u) :=
  ⟨fun _ => steadyByte_setCcp (fun _ => hcon) (fun _ => htsel) (fun _ => hpwmcon) (fun _ => congrArg (· &&& _) has)
    fun _ => hpol, by simp, fun _ => by simp⟩

theorem stands_osc {s : State} {u : Osc} (hcon : u.con = s.osc.con := by rfl) (htune : u.tune = s.osc.tune := by rfl) :
    Stands s { s with osc := u } :=
  ⟨fun _ => steadyByte_osc (fun _ => hcon) fun _ => htune, rfl, fun _ => rfl⟩

theorem stands_setClc {s : State} {n : ClcId} {c : Clc} (hcon : c.con = (s.clc n).con := by rfl)
    (hpol : c.pol = (s.clc n).pol := by rfl) (hsel : c.sel = (s.clc n).sel := by rfl)
    (hgls : c.gls = (s.clc n).gls := by rfl) : Stands s (s.setClc n c) :=
  ⟨fun _ => steadyByte_setClc (fun _ => hcon) (fun _ => hpol) (fun y _ => by rw [hsel]) fun k _ => by rw [hgls], by simp,
    fun _ => by simp⟩

theorem stands_nco {s : State} {u : Nco} (hinc : u.inc = s.nco.inc := by rfl) (hcon : u.con = s.nco.con := by rfl)
    (hclk : u.clk = s.nco.clk := by rfl) : Stands s { s with nco := u } :=
  ⟨fun _ => steadyByte_nco (fun _ => by rw [hinc]) (fun _ => by rw [hinc]) (fun _ => hcon) fun _ => hclk, rfl, fun _ => rfl⟩

theorem stands_setFlag (f : Flag) (v : Bool) (s : State) : Stands s (s.setFlag f v) := by
  cases f with
  | tmr0 => exact stands_t0
  | tmr1 => exact stands_t1
  | tmrx x => exact stands_setTm
  | ccp i => exact stands_setCcp
  | clc n => exact stands_setClc
  | nco => exact stands_nco
  | adc => exact ⟨fun _ => steadyByte_adc (fun _ => rfl) (fun _ => rfl) (fun _ => rfl) (fun _ => rfl) fun _ => rfl, rfl,
      fun _ => rfl⟩

theorem stands_raiseIF (f : Flag) (s : State) : Stands s (raiseIF f s) := (stands_emit _ _).after (stands_setFlag f _ s)

/-! ### Timers -/

theorem stands_t0Start (v : Byte) (s : State) : Stands s (t0Start v s) := (stands_reschedule _ _ _).after stands_t0

theorem stands_t0Stop (v : Byte) (s : State) : Stands s (t0Stop v s) := (stands_cancel _ _).after stands_t0

theorem stands_t1Update (v : Half) (s : State) : Stands s (t1Update v s) := (sig_t1Update v s).stands

theorem stands_t1GainGate (old want : Option SigDesc) (s : State) : Stands s (t1GainGate old want s) := by
  unfold t1GainGate
  split
  · exact .refl s
  · split
    · exact stands_t1
    · exact .refl s

theorem stands_t2Update (x : T2Id) (v : Byte) (s : State) : Stands s (t2Update x v s) := (sig_t2Update x v s).stands

theorem stands_t2Resubscribe (x : T2Id) (old : Option SigDesc) (s : State) : Stands s (t2Resubscribe x old s) := by
  have h (want : Option SigDesc) : Stands s (raiseIfRefused want (resubscribe (.tRst x) (.tRst x) want s)) :=
    (stands_raiseIfRefused _ _).after (stands_resubscribe _ _ _ s)
  unfold t2Resubscribe
  dsimp only
  split
  · exact h _
  · split
    · exact Stands.after stands_setTm (h _)
    · exact h _

/-- What `T2Update` does to the control bytes after a change of the reset signal's source, armed or not: nothing. -/
theorem stands_t2ArmedUpdate (x : T2Id) (v : Byte) (s : State) :
    Stands s (t2Update x (t2ResetCount x v (t2ArmLevel x s)) (t2ArmLevel x s)) :=
  (stands_t2Update _ _ _).after (sig_t2ArmLevel x s).stands

theorem stands_t2AfterSelect (x : T2Id) (t : Timer2) (v : Byte) (s : State) : Stands s (t2AfterSelect x t v s) :=
  stands_ite ((stands_t2Update _ _ _).after (stands_t2Resubscribe x _ s))
    ((stands_t2ArmedUpdate _ _ _).after (stands_t2Resubscribe x _ s))

theorem stands_t2Reratio (x : T2Id) (s : State) : Stands s (t2Reratio x s) := stands_ite (stands_t2Update _ _ s) (.refl s)

theorem stands_t2ReratioAll (s : State) : Stands s (t2ReratioAll s) :=
  (stands_t2Reratio _ _).after ((stands_t2Reratio _ _).after (stands_t2Reratio _ s))

theorem stands_t2ReratioIfStale (x : T2Id) (s : State) : Stands s (t2ReratioIfStale x s) :=
  stands_ite (.refl s) (stands_t2Reratio x s)

theorem stands_t2ReratioStale (s : State) : Stands s (t2ReratioStale s) :=
  (stands_t2ReratioIfStale _ _).after ((stands_t2ReratioIfStale _ _).after (stands_t2ReratioIfStale _ s))

/-! ### Oscillator -/

theorem stands_republish (f : Rat) (s : State) : Stands s (republish signal f s) :=
  stands_ite (.refl s) ((stands_t2ReratioAll _).after ((stands_signal _ _).after ((stands_emit _ _).after
    stands_osc)))

theorem stands_startSettle (s : State) : Stands s (startSettle s) := (stands_reschedule _ _ _).after stands_osc

theorem stands_startOst (src : ExtSrc) (b : Bool) (s : State) : Stands s (startOst signal src b s) := by
  have h : Stands s (reschedule .oscOst (s.cycle + s.cfg.ostCycles)
      { s with osc := { s.osc with state := .ost, target := some src } }) :=
    (stands_reschedule _ _ _).after stands_osc
  exact stands_ite ((stands_republish _ _).after (stands_ite h ((stands_startSettle _).after h)))
    ((stands_republish _ _).after ((stands_cancel _ _).after h))

theorem stands_startInternal (s : State) : Stands s (startInternal signal s) :=
  (stands_republish _ _).after ((stands_startSettle _).after stands_osc)

theorem stands_updateFInt (s : State) : Stands s (updateFInt s) := stands_osc

theorem stands_oscDerive (s : State) : Stands s (oscDerive signal s) := by
  have h : Stands s (updateFInt (cancel .oscOst (cancel .oscSettle s))) :=
    (stands_updateFInt _).after ((stands_cancel _ _).after (stands_cancel _ s))
  unfold oscDerive
  dsimp only
  refine (stands_t2ReratioStale _).after ?_
  split
  · exact (stands_startInternal _).after h
  · exact (stands_startOst _ _ _).after (Stands.after stands_osc h)

/-- The reaction to a write of OSCCON or OSCTUNE writes neither (R342). -/
theorem stands_writeOsc (con tune : Byte) (s : State) :
    Stands { s with osc := { s.osc with con := con, tune := tune } } (writeOsc signal con tune s) := by
  have h := stands_updateFInt { s with osc := { s.osc with con := con, tune := tune } }
  unfold writeOsc
  dsimp only
  refine (stands_t2ReratioStale _).after ?_
  split
  · exact stands_ite (.refl _) (stands_ite ((stands_republish _ _).after h) h)
  · split
    · exact (stands_startInternal _).after ((stands_cancel _ _).after h)
    · exact stands_ite h ((stands_startOst _ _ _).after h)

/-! ### NCO, logic cells, CCP units, ADC -/

theorem stands_ncoSync (s : State) : Stands s (ncoSync s) := stands_ite stands_nco (.refl s)

theorem stands_ncoRecompute (s : State) : Stands s (ncoRecompute s) :=
  stands_ite (stands_reschedule _ _ s) (stands_cancel _ s)

theorem stands_ncoStop (b : Bool) (s : State) : Stands s (ncoStop b s) :=
  stands_ite ((stands_cancel _ _).after stands_nco) (.refl s)

theorem stands_ncoReanchor (s : State) : Stands s (ncoReanchor s) := stands_ite stands_nco (.refl s)

theorem stands_driveControl (c : CtlId) (s : State) : Stands s (driveControl signal c s) :=
  (sig_driveWhere sig_signal _ s).stands

theorem stands_clcResubscribeInput (n : ClcId) (old : Clc) (s : State) (y : Fin 4) :
    Stands s (clcResubscribeInput n old s y) := by
  unfold clcResubscribeInput
  dsimp only
  split
  · exact stands_resubscribe _ _ _ s
  · split
    · exact (stands_raiseIfRefused _ _).after (Stands.after stands_setClc (stands_resubscribe _ _ _ s))
    · exact stands_resubscribe _ _ _ s

theorem stands_clcResubscribe (n : ClcId) (old : Clc) (s : State) : Stands s (clcResubscribe n old s) :=
  stands_foldl _ _ (stands_clcResubscribeInput n old) s

theorem stands_refresh (i : CcpId) (s : State) : Stands s (refresh signal i s) := (sig_refresh sig_signal i s).stands

theorem stands_asGain (i : CcpId) (old want : Option SigDesc) (s : State) : Stands s (asGain i old want s) := by
  unfold asGain
  split
  · exact .refl s
  · split <;> exact stands_setCcp

/-- A compare value set anew leaves the units listed in their places (R281). -/
theorem map_fst_setCompare (i : CcpId) (v : Half) (l : List (CcpId × Half)) :
    (setCompare i v l).map Prod.fst = l.map Prod.fst := by
  rw [setCompare, List.map_map]
  refine List.map_congr_left fun e _ => ?_
  by_cases h : e.1 = i <;> simp [h]

theorem stands_ccprWritten (i : CcpId) (s : State) : Stands s (ccprWritten i s) :=
  stands_ite ((sig_t1Recompute _).stands.after (stands_t1 (hcmp := map_fst_setCompare _ _ _))) (.refl s)

theorem stands_adcAbort (s : State) : Stands s (adcAbort s) :=
  (sig_setGo _ _).stands.after (Stands.after (sig_adc (by rfl)).stands (stands_cancel .adcSeq s))

end Sys2Proof.Machine
end

section
/-!
Proofs about PUT (10_state.md R28, 40_scheduler.md R160): the byte that a write leaves in its cell, and every other control
register as it was.
-/

namespace Sys2Proof.Machine

open Sys2Proof

/-! ### A byte stored in its cell -/

/-- The cell `r` holds `b`, but for the bits that hardware may write, and every other control register stands. So do the
timers' lists, unless `r` is one of the two registers that choose a unit's mode and timer. -/
structure Stored (r : Reg) (b : Byte) (s t : State) : Prop where
  own : hasControlByte r = true → steadyByte t r = b &&& steadyBits r
  others : ∀ q, q ≠ r → steadyByte t q = steadyByte s q
  lists : (∀ i, r ≠ .ccpcon i) → (∀ i, r ≠ .ccptsel i) → SameLists s t

theorem Stored.stands {r : Reg} {b : Byte} {s t u : State} (h : Stored r b s t) (k : Stands t u) : Stored r b s u :=
  ⟨fun hr => (k.bytes r).trans (h.own hr), fun q hq => (k.bytes q).trans (h.others q hq),
    fun hc ht => (h.lists hc ht).trans k.sameLists⟩

theorem Stands.stored {r : Reg} {b : Byte} {s t : State} (h : Stands s t) (hr : hasControlByte r = false) :
    Stored r b s t :=
  ⟨fun h' => absurd (hr.symm.trans h') nofun, fun q _ => h.bytes q, fun _ _ => h.sameLists⟩

theorem Stored.after_stands {r : Reg} {b : Byte} {s t u : State} (k : Stored r b t u) (h : Stands s t) :
    Stored r b s u :=
  ⟨k.own, fun q hq => (k.others q hq).trans (h.bytes q), fun hc ht => h.sameLists.trans (k.lists hc ht)⟩

theorem stored_ite {r : Reg} {b : Byte} {s : State} {c : Prop} [Decidable c] {t u : State} (ht : c → Stored r b s t)
    (hu : ¬ c → Stored r b s u) : Stored r b s (if c then t else u) := by
  split
  · exact ht ‹_›
  · exact hu ‹_›

/-- A write of the byte that the cell already holds, where the rule returns at once. -/
theorem stored_same {r : Reg} {b : Byte} {s : State} (h : b = controlByte s r) : Stored r b s s :=
  ⟨fun _ => h ▸ rfl, fun _ _ => rfl, fun _ _ => .refl s⟩

/-! ### Timers -/

theorem stored_t0con (v : Byte) (pre : Prescaler) (s : State) :
    Stored .t0con v s { s with t0 := { s.t0 with con := v, pre := pre } } :=
  ⟨fun _ => rfl, fun _ hq => steadyByte_t0 (absurd · hq), fun _ _ => ⟨rfl, fun _ => rfl, fun _ => rfl, fun _ => rfl⟩⟩

theorem stored_writeT0con (v : Byte) (s : State) : Stored .t0con v s (writeT0con v s) :=
  stored_ite (stored_same (r := .t0con)) fun _ =>
    stored_ite (fun _ => (stored_t0con v _ s).stands (stands_t0Start _ _))
      fun _ => (stored_t0con v _ s).stands (stands_t0Stop _ _)

theorem stands_writeTmr0 (v : Byte) (s : State) : Stands s (writeTmr0 v s) := stands_ite (stands_t0Start v s) stands_t0

theorem stands_writeTmr1 (v : Half) (s : State) : Stands s (writeTmr1 v s) :=
  stands_ite ((stands_t1Update _ _).after stands_t1) (stands_t1Update v s)

theorem stored_t1con (v : Byte) (s : State) : Stored .t1con v s { s with t1 := { s.t1 with con := v } } :=
  ⟨fun _ => rfl, fun _ hq => steadyByte_t1 (absurd · hq) fun _ => rfl,
    fun _ _ => ⟨rfl, fun _ => rfl, fun _ => rfl, fun _ => rfl⟩⟩

theorem stored_writeT1con (v : Byte) (s : State) : Stored .t1con v s (writeT1con v s) :=
  (stored_t1con v s).stands (stands_ite (.refl _)
    (stands_ite ((stands_t1Update _ _).after stands_t1) (stands_t1Update _ _)))

theorem stored_t1gcon (v : Byte) (s : State) : Stored .t1gcon v s { s with t1 := { s.t1 with gcon := v } } :=
  ⟨fun _ => rfl, fun _ hq => steadyByte_t1 (fun _ => rfl) (absurd · hq),
    fun _ _ => ⟨rfl, fun _ => rfl, fun _ => rfl, fun _ => rfl⟩⟩

theorem stored_writeT1gcon (v : Byte) (s : State) : Stored .t1gcon v s (writeT1gcon v s) :=
  (stored_t1gcon v s).stands ((stands_t1Update _ _).after ((stands_raiseIfRefused _ _).after
    ((stands_t1GainGate _ _ _).after (stands_resubscribe _ _ _ _))))

/-- A register of a Timer2-family timer stored: the timer's other registers and its list are as they were. -/
theorem stored_setTm {r : Reg} {b : Byte} {s : State} {x : T2Id} {u : Timer2}
    (own : controlByte (s.setTm x u) r = b := by simp [controlByte, storedByte])
    (hpr : r ≠ .pr x → u.pr = (s.tm x).pr := by simp) (hcon : r ≠ .tcon x → u.con = (s.tm x).con := by simp)
    (hhlt : r ≠ .thlt x → u.hlt = (s.tm x).hlt := by simp)
    (hclkcon : r ≠ .tclkcon x → u.clkcon = (s.tm x).clkcon := by simp)
    (hrst : r ≠ .trst x → u.rst = (s.tm x).rst := by simp) (hpwm : u.pwm = (s.tm x).pwm := by rfl) :
    Stored r b s (s.setTm x u) :=
  ⟨fun _ => congrArg (· &&& _) own,
    fun _ hq => steadyByte_setTm (fun e => hpr (e ▸ hq.symm)) (fun e => hcon (e ▸ hq.symm)) (fun e => hhlt (e ▸ hq.symm))
      (fun e => hclkcon (e ▸ hq.symm)) fun e => hrst (e ▸ hq.symm),
    fun _ _ => sameLists_setTm hpwm⟩

theorem stored_pr (x : T2Id) (v : Byte) (s : State) : Stored (.pr x) v s (s.setTm x { s.tm x with pr := v }) :=
  stored_setTm

theorem stored_writePr (x : T2Id) (v : Byte) (s : State) : Stored (.pr x) v s (writePr x v s) :=
  (stored_pr x v s).stands (sig_t2Recompute _ _).stands

theorem stored_tcon (x : T2Id) (v : Byte) (post : Prescaler) (armed : Bool) (s : State) :
    Stored (.tcon x) v s (s.setTm x { s.tm x with con := v, post := post, armed := armed }) := stored_setTm

theorem stored_writeTcon (x : T2Id) (v : Byte) (s : State) : Stored (.tcon x) v s (writeTcon x v s) :=
  stored_ite (stored_same (r := .tcon x)) fun _ =>
    stored_ite (fun _ => (stored_tcon x v _ _ s).stands (stands_t2Update _ _ _))
      fun _ => (stored_tcon x v _ _ s).stands ((stands_t2ArmedUpdate _ _ _).after (stands_t2Resubscribe _ _ _))

theorem stored_thlt (x : T2Id) (v : Byte) (armed : Bool) (s : State) :
    Stored (.thlt x) v s (s.setTm x { s.tm x with hlt := v, armed := armed }) := stored_setTm

theorem stored_writeThlt (x : T2Id) (v : Byte) (s : State) : Stored (.thlt x) v s (writeThlt x v s) :=
  (stored_thlt x v _ s).stands (stands_t2AfterSelect _ _ _ _)

theorem stored_tclkcon (x : T2Id) (v : Byte) (s : State) :
    Stored (.tclkcon x) v s (s.setTm x { s.tm x with clkcon := v }) := stored_setTm

theorem stored_writeTclkcon (x : T2Id) (v : Byte) (s : State) : Stored (.tclkcon x) v s (writeTclkcon x v s) :=
  stored_ite (stored_same (r := .tclkcon x)) fun _ => (stored_tclkcon x v s).stands (stands_t2Update _ _ _)

theorem stored_trst (x : T2Id) (v : Byte) (s : State) : Stored (.trst x) v s (s.setTm x { s.tm x with rst := v }) :=
  stored_setTm

theorem stored_writeTrst (x : T2Id) (v : Byte) (s : State) : Stored (.trst x) v s (writeTrst x v s) :=
  (stored_trst x v s).stands (stands_t2AfterSelect _ _ _ _)

/-! ### CCP units -/

/-- A register of a CCP unit stored: the unit's other registers are as they were. -/
theorem stored_setCcp {r : Reg} {b : Byte} {s : State} {i : CcpId} {u : Ccp}
    (own : steadyByte (s.setCcp i u) r = b &&& steadyBits r := by simp [steadyByte, controlByte, storedByte, steadyBits])
    (hcon : r ≠ .ccpcon i → u.con = (s.ccp i).con := by simp)
    (htsel : r ≠ .ccptsel i → u.tsel = (s.ccp i).tsel := by simp)
    (hpwmcon : r ≠ .pwmcon i → u.pwmcon = (s.ccp i).pwmcon := by simp)
    (has : r ≠ .ccpas i → u.as = (s.ccp i).as := by simp) (hpol : r ≠ .ccppol i → u.pol = (s.ccp i).pol := by simp) :
    Stored r b s (s.setCcp i u) :=
  ⟨fun _ => own,
    fun _ hq => steadyByte_setCcp (fun e => hcon (e ▸ hq.symm)) (fun e => htsel (e ▸ hq.symm))
      (fun e => hpwmcon (e ▸ hq.symm)) (fun e => congrArg (· &&& _) (has (e ▸ hq.symm))) fun e => hpol (e ▸ hq.symm),
    fun hc ht => sameLists_setCcp (congrArg (field · 0 4) (hcon (hc i))) (congrArg (field · 0 2) (htsel (ht i)))⟩

theorem stored_ccprl (i : CcpId) (v : Byte) (s : State) : Stored (.ccprl i) v s (s.setCcp i { s.ccp i with rl := v }) :=
  stored_setCcp

theorem stored_writeCcprl (i : CcpId) (v : Byte) (s : State) : Stored (.ccprl i) v s (writeCcprl i v s) :=
  (stored_ccprl i v s).stands (stands_ccprWritten _ _)

theorem stored_ccprh (i : CcpId) (v : Byte) (s : State) : Stored (.ccprh i) v s (s.setCcp i { s.ccp i with rh := v }) :=
  stored_setCcp

theorem stored_writeCcprh (i : CcpId) (v : Byte) (s : State) : Stored (.ccprh i) v s (writeCcprh i v s) :=
  (stored_ccprh i v s).stands (stands_ccprWritten _ _)

theorem stored_pwmcon (i : CcpId) (v : Byte) (s : State) :
    Stored (.pwmcon i) v s (s.setCcp i { s.ccp i with pwmcon := v }) := stored_setCcp

theorem stored_writePwmcon (i : CcpId) (v : Byte) (s : State) : Stored (.pwmcon i) v s (writePwmcon signal i v s) :=
  (stored_pwmcon i v s).stands (stands_refresh _ _)

theorem stored_ccppol (i : CcpId) (v : Byte) (s : State) :
    Stored (.ccppol i) v s (s.setCcp i { s.ccp i with pol := v }) := stored_setCcp

theorem stored_writeCcppol (i : CcpId) (v : Byte) (s : State) : Stored (.ccppol i) v s (writeCcppol signal i v s) :=
  (stored_ccppol i v s).stands (stands_refresh _ _)

theorem stored_ccpas (i : CcpId) (v : Byte) (s : State) : Stored (.ccpas i) v s (s.setCcp i { s.ccp i with as := v }) :=
  stored_setCcp

/-- PUT CCPiAS: the subscription and the shutdown that follow the store write no bit of it but ASE (R310). -/
theorem stored_writeCcpas (i : CcpId) (v : Byte) (s : State) : Stored (.ccpas i) v s (writeCcpas signal i v s) := by
  have hgain (old want : Option SigDesc) (u : State) :
      Stands u (asGain i old want (raiseIfRefused want (resubscribe (.ccpShut i) (.ccpAs i) want u))) :=
    (stands_asGain _ _ _ _).after ((stands_raiseIfRefused _ _).after (stands_resubscribe _ _ _ u))
  have hshut (c : State → Bool) (u : State) : Stands u (if c u then shutdownCcp i u else u) :=
    stands_ite (sig_shutdownCcp i u).stands (.refl u)
  have hclear (c : State → Bool) (u : State) :
      Stands u (if c u then u.setCcp i { u.ccp i with shutdown := false } else u) := stands_ite stands_setCcp (.refl u)
  exact (stored_ccpas i v s).stands ((stands_refresh _ _).after ((sig_storeAse i _).stands.after
    ((hshut (fun u => asActive u i && !(u.ccp i).shutdown) _).after
      ((hclear (fun u => !bit v 7 && (u.ccp i).shutdown && !asActive u i) _).after
        ((hshut (fun u => bit v 7 && !(u.ccp i).shutdown) _).after (hgain _ _ _))))))

/-- A change of the list of a PWM timer writes no register. -/
theorem steadyByte_setPwm (s : State) (x : T2Id) (l : List CcpId) (q : Reg) :
    steadyByte (s.setTm x { s.tm x with pwm := l }) q = steadyByte s q :=
  steadyByte_setTm (fun _ => rfl) (fun _ => rfl) (fun _ => rfl) (fun _ => rfl) fun _ => rfl

/-- A change of Timer1's compare list writes no register. -/
theorem steadyByte_setCmp (s : State) (l : List (CcpId × Half)) (q : Reg) :
    steadyByte { s with t1 := { s.t1 with cmp := l } } q = steadyByte s q :=
  steadyByte_t1 (fun _ => rfl) fun _ => rfl

/-- A unit captures, compares or does neither; it does PWM in none of those modes (R45). -/
theorem compare_false_of_capture {m : Nat} (h : isCaptureMode m = true) : isCompareMode m = false := by
  simp [isCaptureMode, isCompareMode] at *
  omega

theorem pwm_false_of_capture {m : Nat} (h : isCaptureMode m = true) : isPwmMode m = false := by
  simp [isCaptureMode, isPwmMode] at *
  omega

theorem pwm_false_of_compare {m : Nat} (h : isCompareMode m = true) : isPwmMode m = false := by
  simp [isCompareMode, isPwmMode] at *
  omega

/-- `Leave` by the unit's mode (R280): out of Timer1's list, out of the PWM timer's list, or nothing. -/
theorem ccpLeave_cases (i : CcpId) (s : State) :
    (isCompareMode (ccpMode (s.ccp i)) = true ∧
      Stands { s with t1 := { s.t1 with cmp := s.t1.cmp.filter (fun e => e.1 != i) } } (ccpLeave i s)) ∨
    (isPwmMode (ccpMode (s.ccp i)) = true ∧
      Stands (s.setTm (s.pwmTimer i)
        { s.tm (s.pwmTimer i) with pwm := (s.tm (s.pwmTimer i)).pwm.filter (fun j => j != i) }) (ccpLeave i s)) ∨
    (isCompareMode (ccpMode (s.ccp i)) = false ∧ isPwmMode (ccpMode (s.ccp i)) = false ∧ ccpLeave i s = s) := by
  unfold ccpLeave
  dsimp only
  split
  · exact .inl ⟨‹_›, (stands_cancel _ _).after (sig_t1Recompute _).stands⟩
  · split
    · refine .inr (.inl ⟨‹_›, ?_⟩)
      exact (sig_t2Recompute _ _).stands.after (Stands.after stands_setCcp ((stands_cancel _ _).after stands_setCcp))
    · exact .inr (.inr ⟨Bool.eq_false_iff.2 ‹_›, Bool.eq_false_iff.2 ‹_›, rfl⟩)

/-- `Enter` by the unit's mode (R280, R291): into Timer1's list, into the PWM timer's list, or into neither. -/
theorem ccpEnter_cases (i : CcpId) (s : State) :
    (isCompareMode (ccpMode (s.ccp i)) = false ∧ isPwmMode (ccpMode (s.ccp i)) = false ∧ Stands s (ccpEnter i s)) ∨
    (isCompareMode (ccpMode (s.ccp i)) = true ∧ ∃ u v, Stands s u ∧
      Stands { u with t1 := { u.t1 with cmp := u.t1.cmp ++ [(i, v)] } } (ccpEnter i s)) ∨
    (isPwmMode (ccpMode (s.ccp i)) = true ∧ ∃ u, Stands s u ∧
      Stands (u.setTm (u.pwmTimer i) { u.tm (u.pwmTimer i) with pwm := (u.tm (u.pwmTimer i)).pwm ++ [i] })
        (ccpEnter i s)) := by
  unfold ccpEnter
  dsimp only
  split
  · exact .inl ⟨compare_false_of_capture ‹_›, pwm_false_of_capture ‹_›, stands_setCcp⟩
  · split
    · refine .inr (.inl ⟨‹_›, _, _, ?_, (sig_t1Recompute _).stands⟩)
      exact stands_ite (sig_setOutput _ _ _ s).stands (stands_ite (sig_setOutput _ _ _ s).stands (.refl s))
    · split
      · exact .inr (.inr ⟨‹_›, _, stands_setCcp, (sig_t2Recompute _ _).stands⟩)
      · exact .inl ⟨Bool.eq_false_iff.2 ‹_›, Bool.eq_false_iff.2 ‹_›, .refl s⟩

/-- Leaving a mode changes the lists alone. -/
theorem steadyByte_ccpLeave (i : CcpId) (s : State) (q : Reg) : steadyByte (ccpLeave i s) q = steadyByte s q := by
  rcases ccpLeave_cases i s with ⟨-, h⟩ | ⟨-, h⟩ | ⟨-, -, h⟩
  · exact (h.bytes q).trans (steadyByte_setCmp s _ q)
  · exact (h.bytes q).trans (steadyByte_setPwm s _ _ q)
  · rw [h]

/-- Entering a mode changes the lists alone. -/
theorem steadyByte_ccpEnter (i : CcpId) (s : State) (q : Reg) : steadyByte (ccpEnter i s) q = steadyByte s q := by
  rcases ccpEnter_cases i s with ⟨-, -, h⟩ | ⟨-, u, v, hu, h⟩ | ⟨-, u, hu, h⟩
  · exact h.bytes q
  · exact (h.bytes q).trans ((steadyByte_setCmp u _ q).trans (hu.bytes q))
  · exact (h.bytes q).trans ((steadyByte_setPwm u _ _ q).trans (hu.bytes q))

theorem stored_ccpcon (i : CcpId) (v : Byte) (s : State) :
    Stored (.ccpcon i) v s (s.setCcp i { s.ccp i with con := v, tsel := (s.ccp i).tsel }) := stored_setCcp

theorem stored_ccptsel (i : CcpId) (v : Byte) (s : State) :
    Stored (.ccptsel i) v s (s.setCcp i { s.ccp i with con := (s.ccp i).con, tsel := v }) := stored_setCcp

/-- PUT CCPiCON and CCPiTSEL: the unit leaves its old mode, the byte is stored, the unit enters its new one (R280). -/
theorem stored_writeCcpMode {r : Reg} {b con tsel : Byte} {i : CcpId} {s : State}
    (hr : r = .ccpcon i ∨ r = .ccptsel i)
    (hstay : Stored r b s (s.setCcp i { s.ccp i with con := con, tsel := tsel }))
    (hstore : Stored r b (ccpLeave i s)
      ((ccpLeave i s).setCcp i { (ccpLeave i s).ccp i with con := con, tsel := tsel })) :
    Stored r b s (writeCcpMode signal i con tsel s) := by
  have hbytes (u : State) (q : Reg) : steadyByte (refresh signal i (ccpEnter i u)) q = steadyByte u q :=
    ((stands_refresh _ _).bytes q).trans (steadyByte_ccpEnter i u q)
  refine stored_ite (fun _ => hstay) fun _ => ⟨fun h => (hbytes _ r).trans (hstore.own h), fun q hq => ?_, fun hc ht => ?_⟩
  · exact (hbytes _ q).trans ((hstore.others q hq).trans (steadyByte_ccpLeave i s q))
  · rcases hr with rfl | rfl
    · exact absurd rfl (hc i)
    · exact absurd rfl (ht i)

theorem stored_writeCcpcon (i : CcpId) (v : Byte) (s : State) : Stored (.ccpcon i) v s (writeCcpcon signal i v s) :=
  stored_writeCcpMode (.inl rfl) (stored_ccpcon i v s)
    (tsel_of_bytes (steadyByte_ccpLeave i s) i ▸ stored_ccpcon i v (ccpLeave i s))

theorem stored_writeCcptsel (i : CcpId) (v : Byte) (s : State) : Stored (.ccptsel i) v s (writeCcptsel signal i v s) :=
  stored_writeCcpMode (.inr rfl) (stored_ccptsel i v s)
    (con_of_bytes (steadyByte_ccpLeave i s) i ▸ stored_ccptsel i v (ccpLeave i s))

/-! ### Oscillator -/

theorem stored_osccon (v : Byte) (s : State) :
    Stored .osccon v s { s with osc := { s.osc with con := v, tune := s.osc.tune } } :=
  ⟨fun _ => rfl, fun _ hq => steadyByte_osc (absurd · hq) fun _ => rfl,
    fun _ _ => ⟨rfl, fun _ => rfl, fun _ => rfl, fun _ => rfl⟩⟩

theorem stored_osctune (v : Byte) (s : State) :
    Stored .osctune v s { s with osc := { s.osc with con := s.osc.con, tune := v } } :=
  ⟨fun _ => rfl, fun _ hq => steadyByte_osc (fun _ => rfl) (absurd · hq),
    fun _ _ => ⟨rfl, fun _ => rfl, fun _ => rfl, fun _ => rfl⟩⟩

/-! ### Logic cells -/

/-- PUT of a CLCn register; the store may come with the element's reset (R370). -/
theorem stored_writeClc {r : Reg} {b : Byte} {n : ClcId} {store : Clc → Clc} {s : State}
    (h : ∀ q g, Stored r b s (s.setClc n { store (s.clc n) with q := q, g1Prev := g })) :
    Stored r b s (writeClc signal n store s) := by
  have hc : Stored r b s (s.setClc n (if (!clcEn (store (s.clc n)) && clcEn (s.clc n)) = true then
      { store (s.clc n) with q := false, g1Prev := false } else store (s.clc n))) := by
    split
    · exact h false false
    · exact h (store (s.clc n)).q (store (s.clc n)).g1Prev
  exact (hc.stands (stands_clcResubscribe n (s.clc n) _)).stands
    ((sig_clcEvaluate sig_signal _ _).stands.after (stands_ite (.refl _) (stands_driveControl _ _)))

/-- A register of a logic cell stored: the cell's other registers are as they were. -/
theorem stored_setClc {r : Reg} {b : Byte} {s : State} {n : ClcId} {c : Clc}
    (own : controlByte (s.setClc n c) r = b := by simp [controlByte, storedByte])
    (hcon : r ≠ .clccon n → c.con = (s.clc n).con := by intros; rfl)
    (hpol : r ≠ .clcpol n → c.pol = (s.clc n).pol := by intros; rfl)
    (hsel : ∀ y, r ≠ .clcsel n y → c.sel[y] = (s.clc n).sel[y] := by intros; rfl)
    (hgls : ∀ k, r ≠ .clcgls n k → c.gls[k] = (s.clc n).gls[k] := by intros; rfl) : Stored r b s (s.setClc n c) :=
  ⟨fun _ => congrArg (· &&& _) own,
    fun _ hq => steadyByte_setClc (fun e => hcon (e ▸ hq.symm)) (fun e => hpol (e ▸ hq.symm))
      (fun y e => hsel y (e ▸ hq.symm)) fun k e => hgls k (e ▸ hq.symm),
    fun _ _ => ⟨by simp, fun _ => by simp, fun _ => by simp, fun _ => by simp⟩⟩

theorem getElem_set_other {α : Type} (l : Vector α 4) (a : α) {i j : Fin 4} (h : i ≠ j) : (l.set i a)[j] = l[j] :=
  Vector.getElem_set_ne _ _ fun e => h (Fin.ext e)

theorem stored_clccon (n : ClcId) (v : Byte) (s : State) :
    Stored (.clccon n) (v &&& 0xDF) s (writeClc signal n (storeClccon v) s) :=
  stored_writeClc fun _ _ => stored_setClc (own := by simp [controlByte, storeClccon]) (hcon := (absurd rfl ·))

theorem stored_clcpol (n : ClcId) (v : Byte) (s : State) :
    Stored (.clcpol n) v s (writeClc signal n (storeClcpol v) s) :=
  stored_writeClc fun _ _ => stored_setClc (own := by simp [controlByte, storedByte, storeClcpol])
    (hpol := (absurd rfl ·))

theorem stored_clcsel (n : ClcId) (y : Fin 4) (v : Byte) (s : State) :
    Stored (.clcsel n y) v s (writeClc signal n (storeClcsel y v) s) :=
  stored_writeClc fun _ _ => stored_setClc (own := by simp [controlByte, storedByte, storeClcsel])
    (hsel := fun _ h => getElem_set_other _ _ fun e => h (e ▸ rfl))

theorem stored_clcgls (n : ClcId) (k : Fin 4) (v : Byte) (s : State) :
    Stored (.clcgls n k) v s (writeClc signal n (storeClcgls k v) s) :=
  stored_writeClc fun _ _ => stored_setClc (own := by simp [controlByte, storedByte, storeClcgls])
    (hgls := fun _ h => getElem_set_other _ _ fun e => h (e ▸ rfl))

/-! ### NCO -/

/-- A PUT of an NCO register; the accumulator is brought up to date before the store (R401). -/
theorem stored_writeNco {r : Reg} {b : Byte} {store : Nco → Nco} {s : State}
    (h : ∀ u : State, Stored r b u { u with nco := store u.nco }) : Stored r b s (writeNco signal store s) := by
  have hstored : Stored r b s (ncoStored store s) :=
    ((h (ncoSync s)).after_stands (stands_ncoSync s)).stands ((stands_ncoReanchor _).after (stands_ncoStop _ _))
  have hout : Stands (ncoStored store s) (ncoOutput signal (ncoRecompute (ncoStored store s))) :=
    (sig_ncoOutput sig_signal _).stands.after (stands_ncoRecompute _)
  exact hstored.stands (stands_ite hout ((stands_driveControl _ _).after hout))

theorem lowByte_pairOf (hi lo : Byte) : lowByte (pairOf hi lo) = lo := by
  ext i hi
  simp only [lowByte, pairOf, BitVec.getElem_extractLsb', BitVec.getLsbD_append]
  simp [hi]

theorem highByte_pairOf (hi lo : Byte) : highByte (pairOf hi lo) = hi := by
  ext i hlt
  simp only [highByte, pairOf, BitVec.getElem_extractLsb', BitVec.getLsbD_append]
  simp [hlt]

/-- A register of the NCO stored: its other registers are as they were. -/
theorem stored_nco {r : Reg} {b : Byte} {s : State} {u : Nco}
    (own : hasControlByte r = true → controlByte { s with nco := u } r = b)
    (hincl : r ≠ .ncoincl → lowByte u.inc = lowByte s.nco.inc := by intros; rfl)
    (hinch : r ≠ .ncoinch → highByte u.inc = highByte s.nco.inc := by intros; rfl)
    (hcon : r ≠ .ncocon → u.con = s.nco.con := by intros; rfl)
    (hclk : r ≠ .ncoclk → u.clk = s.nco.clk := by intros; rfl) :
    Stored r b s { s with nco := u } :=
  ⟨fun h => congrArg (· &&& _) (own h),
    fun _ hq => steadyByte_nco (fun e => hincl (e ▸ hq.symm)) (fun e => hinch (e ▸ hq.symm)) (fun e => hcon (e ▸ hq.symm))
      fun e => hclk (e ▸ hq.symm),
    fun _ _ => ⟨rfl, fun _ => rfl, fun _ => rfl, fun _ => rfl⟩⟩

theorem stored_ncoincl (v : Byte) (s : State) : Stored .ncoincl v s (writeNco signal (storeIncl v) s) :=
  stored_writeNco fun _ => stored_nco (fun _ => lowByte_pairOf _ _) (absurd rfl ·) fun _ => highByte_pairOf _ _

theorem stored_ncoinch (v : Byte) (s : State) : Stored .ncoinch v s (writeNco signal (storeInch v) s) :=
  stored_writeNco fun _ => stored_nco (fun _ => highByte_pairOf _ _) (fun _ => lowByte_pairOf _ _) (absurd rfl ·)

theorem stored_ncocon (v : Byte) (s : State) : Stored .ncocon (v &&& 0x91) s (writeNco signal (storeNcocon v) s) :=
  stored_writeNco fun _ => stored_nco (fun _ => rfl) (hcon := (absurd rfl ·))

theorem stored_ncoclk (v : Byte) (s : State) : Stored .ncoclk v s (writeNco signal (storeNcoclk v) s) :=
  stored_writeNco fun _ => stored_nco (fun _ => rfl) (hclk := (absurd rfl ·))

/-! ### ADC -/

/-- A register of the ADC stored: its other registers are as they were. -/
theorem stored_adc {r : Reg} {b : Byte} {s : State} {u : Adc} (own : controlByte { s with adc := u } r = b)
    (hresl : r ≠ .adresl → u.resl = s.adc.resl := by simp) (hresh : r ≠ .adresh → u.resh = s.adc.resh := by simp)
    (hcon0 : r ≠ .adcon0 → u.con0 = s.adc.con0 := by simp) (hcon1 : r ≠ .adcon1 → u.con1 = s.adc.con1 := by simp)
    (hacq : r ≠ .adacq → u.acq = s.adc.acq := by simp) : Stored r b s { s with adc := u } :=
  ⟨fun _ => congrArg (· &&& _) own,
    fun _ hq => steadyByte_adc (fun e => hresl (e ▸ hq.symm)) (fun e => hresh (e ▸ hq.symm))
      (fun e => congrArg (· &&& _) (hcon0 (e ▸ hq.symm))) (fun e => hcon1 (e ▸ hq.symm)) fun e => hacq (e ▸ hq.symm),
    fun _ _ => ⟨rfl, fun _ => rfl, fun _ => rfl, fun _ => rfl⟩⟩

/-- PUT ADCON0: a start and an abort write no bit of it but GO (R420, R421). -/
theorem stored_writeAdcon0 (v : Byte) (s : State) : Stored .adcon0 v s (writeAdcon0 v s) := by
  have hstore : Stored .adcon0 v s { s with adc := { s.adc with con0 := v } } := stored_adc rfl
  have hstart (c : Bool) (u : State) : Stands u (if c then adcStart (setGo false u) else u) :=
    stands_ite ((sig_adcStart _).stands.after (sig_setGo _ u).stands) (.refl u)
  have habort (c : State → Bool) (u : State) : Stands u (if c u then adcAbort u else u) :=
    stands_ite (stands_adcAbort u) (.refl u)
  exact (hstore.stands (hstart (adGo v && !adGo s.adc.con0) _)).stands
    (habort (fun u => (!adGo v || !adOn v) && u.adc.state != .idle) _)

/-! ### Every PUT -/

/-- The byte that the write rule of a cell stores: CLCnCON and NCOCON leave out their OUT bit (R55, R58). -/
def cellByte : Reg → Byte → Byte
  | .clccon _, new => new &&& 0xDF
  | .ncocon, new => new &&& 0x91
  | _, new => new

/-- Every write rule stores its byte and reaches no other control register (R160). -/
theorem stored_onWrite (r : Reg) (new : Byte) (s : State) : Stored r (cellByte r new) s (onWrite signal r new s) := by
  cases r with
  | cycle k => exact (Stands.refl s).stored rfl
  | fault => exact (Stands.refl s).stored rfl
  | oscstat => exact (Stands.refl s).stored rfl
  | tmr0 => exact (stands_writeTmr0 new s).stored rfl
  | t0con => exact stored_writeT0con new s
  | t0stat => exact (stands_setFlag .tmr0 _ s).stored rfl
  | tmr1l => exact (stands_writeTmr1 _ s).stored rfl
  | tmr1h => exact (stands_writeTmr1 _ s).stored rfl
  | t1con => exact stored_writeT1con new s
  | t1gcon => exact stored_writeT1gcon new s
  | t1stat => exact (stands_setFlag .tmr1 _ s).stored rfl
  | tmr x => exact (stands_t2Update x new s).stored rfl
  | pr x => exact stored_writePr x new s
  | tcon x => exact stored_writeTcon x new s
  | thlt x => exact stored_writeThlt x new s
  | tclkcon x => exact stored_writeTclkcon x new s
  | trst x => exact stored_writeTrst x new s
  | tstat x => exact (stands_setFlag (.tmrx x) _ s).stored rfl
  | ccprl i => exact stored_writeCcprl i new s
  | ccprh i => exact stored_writeCcprh i new s
  | ccpcon i => exact stored_writeCcpcon i new s
  | ccptsel i => exact stored_writeCcptsel i new s
  | pwmcon i => exact stored_writePwmcon i new s
  | ccpas i => exact stored_writeCcpas i new s
  | ccpstat i => exact (stands_setFlag (.ccp i) _ s).stored rfl
  | ccppol i => exact stored_writeCcppol i new s
  | osccon => exact (stored_osccon new s).stands (stands_writeOsc _ _ s)
  | osctune => exact (stored_osctune new s).stands (stands_writeOsc _ _ s)
  | clccon n => exact stored_clccon n new s
  | clcpol n => exact stored_clcpol n new s
  | clcsel n y => exact stored_clcsel n y new s
  | clcgls n k => exact stored_clcgls n k new s
  | clcstat n => exact (stands_setFlag (.clc n) _ s).stored rfl
  | ncoaccl => exact stored_writeNco fun _ => stored_nco nofun
  | ncoacch => exact stored_writeNco fun _ => stored_nco nofun
  | ncoaccu => exact stored_writeNco fun _ => stored_nco nofun
  | ncoincl => exact stored_ncoincl new s
  | ncoinch => exact stored_ncoinch new s
  | ncocon => exact stored_ncocon new s
  | ncoclk => exact stored_ncoclk new s
  | ncostat => exact (stands_setFlag .nco _ s).stored rfl
  | adresl => exact stored_adc rfl
  | adresh => exact stored_adc rfl
  | adcon0 => exact stored_writeAdcon0 new s
  | adcon1 => exact stored_adc rfl
  | adacq => exact stored_adc rfl
  | adstat => exact (stands_setFlag .adc _ s).stored rfl

/-- Under the mask the merge has the written byte (R160). -/
theorem maskMerge_and (mask old v : Byte) : maskMerge mask old v &&& mask = v &&& mask := by
  ext i hi
  simp only [maskMerge, BitVec.getElem_and, BitVec.getElem_or, BitVec.getElem_not]
  cases mask[i] <;> simp

/-- A cell that reads only its writable bits takes only those of the written byte (R160). -/
theorem maskMerge_masked (mask old v : Byte) : maskMerge mask (old &&& mask) v = v &&& mask := by
  ext i hi
  simp only [maskMerge, BitVec.getElem_and, BitVec.getElem_or, BitVec.getElem_not]
  cases mask[i] <;> simp

/-- A control register reads its stored byte and takes the written one whole, but for the two that have an OUT bit. -/
theorem control_reads_stored {r : Reg} (hr : hasControlByte r = true) (s : State) :
    (∃ n, r = .clccon n) ∨ r = .ncocon ∨ (readDerived s r = none ∧ ∀ b, cellByte r b = b) := by
  cases r <;> simp_all [hasControlByte, readDerived, cellByte]

/-- A control register takes the written byte's writable bits (R28, R160). -/
theorem cellByte_putByte {r : Reg} (hr : hasControlByte r = true) (v : Byte) (s : State) :
    cellByte r (putByte r v s) = v &&& wmask r := by
  rcases control_reads_stored hr s with ⟨n, rfl⟩ | rfl | ⟨hread, hcell⟩
  · exact maskMerge_and _ _ _
  · exact maskMerge_and _ _ _
  · rw [hcell, putByte, readReg, hread]
    exact maskMerge_masked _ _ _

/-- Settles O26, by `stored_onWrite` at the byte that `RegPut` hands to the write rule. -/
theorem putStoresOnlyItsRegister : Obligations.PutStoresOnlyItsRegister := by
  intro r v s
  have h := stored_onWrite r (putByte r v s) s
  exact ⟨regPut r v s, exec_putRow r v s, fun hr => (h.own hr).trans (by rw [cellByte_putByte hr]), h.others⟩

end Sys2Proof.Machine
end

section
/-!
Proofs about the timers' lists of CCP units (10_state.md R35, R39; 43_ccp.md R280): a write of a unit's mode takes it out of
its old list and into its new one, and nothing else touches the lists.
-/

namespace Sys2Proof.Machine

open Sys2Proof

/-! ### A unit between two modes -/

/-- The lists are exact for every unit but `i`, which stands in none: what `Leave` leaves and `Enter` finds (R280). -/
structure ListedBut (i : CcpId) (s : State) : Prop where
  compares_nodup : (s.t1.cmp.map Prod.fst).Nodup
  compares : ∀ j, j ∈ s.t1.cmp.map Prod.fst ↔ j ≠ i ∧ isCompareMode (ccpMode (s.ccp j)) = true
  pwm_nodup : ∀ x, (s.tm x).pwm.Nodup
  pwm : ∀ x j, j ∈ (s.tm x).pwm ↔ j ≠ i ∧ isPwmMode (ccpMode (s.ccp j)) = true ∧ s.pwmTimer j = x

theorem SameLists.listedBut {i : CcpId} {s t : State} (h : SameLists s t) (hs : ListedBut i s) : ListedBut i t := by
  obtain ⟨hcn, hc, hpn, hp⟩ := hs
  exact ⟨by simpa only [h.compares], by simpa only [h.compares, h.mode], by simpa only [h.pwm],
    by simpa only [h.pwm, h.mode, h.pwmTimer]⟩

/-- A listed state without unit `i` in its lists. -/
theorem listedBut_of_listed {i : CcpId} {s t : State} (hs : s.Listed)
    (hcmp : t.t1.cmp.map Prod.fst = (s.t1.cmp.map Prod.fst).filter (· != i))
    (hpwm : ∀ x, (t.tm x).pwm = (s.tm x).pwm.filter (· != i)) (hccp : ∀ j, t.ccp j = s.ccp j) : ListedBut i t := by
  obtain ⟨hcn, hc, hpn, hp⟩ := hs
  have htimer (j : CcpId) : t.pwmTimer j = s.pwmTimer j := congrArg (fun u => ptselTimer (ccpPtsel u)) (hccp j)
  refine ⟨hcmp ▸ hcn.filter _, fun j => ?_, fun x => hpwm x ▸ (hpn x).filter _, fun x j => ?_⟩
  · rw [hcmp, hccp, List.mem_filter, hc, bne_iff_ne, and_comm]
  · rw [hpwm, hccp, htimer, List.mem_filter, hp, bne_iff_ne, and_comm]

theorem filter_ne_of_not_mem {i : CcpId} {l : List CcpId} (h : i ∉ l) : l.filter (· != i) = l :=
  List.filter_eq_self.2 fun _ hj => bne_iff_ne.2 fun e => h (e ▸ hj)

theorem map_fst_filter (i : CcpId) (l : List (CcpId × Half)) :
    (l.filter (fun e => e.1 != i)).map Prod.fst = (l.map Prod.fst).filter (· != i) := by
  rw [List.filter_map]
  rfl

theorem compare_ne_of_pwm {m : Nat} (h : isPwmMode m = true) : ¬ isCompareMode m = true := fun hc =>
  absurd ((pwm_false_of_compare hc).symm.trans h) Bool.false_ne_true

/-- `Leave` takes the unit out of the list of its mode, and it stands in no other. -/
theorem ccpLeave_listedBut (i : CcpId) {s : State} (hs : s.Listed) : ListedBut i (ccpLeave i s) := by
  have hcmp (h : isCompareMode (ccpMode (s.ccp i)) = false) :
      s.t1.cmp.map Prod.fst = (s.t1.cmp.map Prod.fst).filter (· != i) :=
    (filter_ne_of_not_mem fun hm => absurd (h.symm.trans ((hs.2.1 i).1 hm)) nofun).symm
  have hpwm (x : T2Id) (h : ¬ (isPwmMode (ccpMode (s.ccp i)) = true ∧ s.pwmTimer i = x)) :
      (s.tm x).pwm = (s.tm x).pwm.filter (· != i) :=
    (filter_ne_of_not_mem fun hm => h ((hs.2.2.2 x i).1 hm)).symm
  rcases ccpLeave_cases i s with ⟨hm, h⟩ | ⟨hm, h⟩ | ⟨hmc, hmp, h⟩
  · refine h.sameLists.listedBut (listedBut_of_listed hs (map_fst_filter i _) (fun x => hpwm x fun hp => ?_) fun _ => rfl)
    exact absurd ((pwm_false_of_compare hm).symm.trans hp.1) nofun
  · refine h.sameLists.listedBut (listedBut_of_listed hs ?_ (fun x => ?_) fun _ => by simp)
    · rw [setTm_t1]
      exact hcmp (Bool.eq_false_iff.2 (compare_ne_of_pwm hm))
    · by_cases hx : x = s.pwmTimer i
      · rw [hx, setTm_tm_same]
      · rw [setTm_tm_other _ _ _ _ hx]
        exact hpwm x fun hp => hx hp.2.symm
  · rw [h]
    exact listedBut_of_listed hs (hcmp hmc) (fun x => hpwm x fun hp => absurd (hmp.symm.trans hp.1) nofun) fun _ => rfl

/-- A change of the unit that stands in no list. -/
theorem listedBut_setCcp {i : CcpId} {s : State} (h : ListedBut i s) (u : Ccp) : ListedBut i (s.setCcp i u) := by
  obtain ⟨hcn, hc, hpn, hp⟩ := h
  have hmode {j : CcpId} (hj : j ≠ i) : (s.setCcp i u).ccp j = s.ccp j := setCcp_ccp_other _ _ _ _ hj
  have htimer {j : CcpId} (hj : j ≠ i) : (s.setCcp i u).pwmTimer j = s.pwmTimer j :=
    congrArg (fun u => ptselTimer (ccpPtsel u)) (hmode hj)
  refine ⟨by simpa using hcn, fun j => ?_, fun x => by simpa using hpn x, fun x j => ?_⟩
  · rw [setCcp_t1, hc]
    exact and_congr_right fun hj => by rw [hmode hj]
  · rw [setCcp_tm, hp]
    exact and_congr_right fun hj => by rw [hmode hj, htimer hj]

/-- Listing a unit where it belongs, after a list that is exact for the others. -/
theorem mem_append_unit {P : CcpId → Prop} [DecidablePred P] {i : CcpId} {l : List CcpId}
    (h : ∀ j, j ∈ l ↔ j ≠ i ∧ P j) (j : CcpId) : (j ∈ l ++ if P i then [i] else []) ↔ P j := by
  rw [List.mem_append, h]
  by_cases hj : j = i
  · subst hj
    by_cases hP : P j <;> simp [hP]
  · by_cases hP : P i <;> simp [hP, hj]

theorem nodup_append_unit {P : CcpId → Prop} [DecidablePred P] {i : CcpId} {l : List CcpId}
    (h : ∀ j, j ∈ l ↔ j ≠ i ∧ P j) (hl : l.Nodup) : (l ++ if P i then [i] else []).Nodup := by
  have hi : i ∉ l := fun hm => ((h i).1 hm).1 rfl
  split
  · exact List.nodup_append.2 ⟨hl, List.nodup_singleton i, fun a ha b hb e => hi (List.mem_singleton.1 hb ▸ e ▸ ha)⟩
  · simpa using hl

/-- Exact for every unit but `i`, the lists are exact for all once `i` stands where its mode says. -/
theorem listed_of_listedBut {i : CcpId} {s t : State} (hs : ListedBut i s) (hccp : ∀ j, t.ccp j = s.ccp j)
    (hcmp : t.t1.cmp.map Prod.fst = s.t1.cmp.map Prod.fst ++
      if isCompareMode (ccpMode (s.ccp i)) = true then [i] else [])
    (hpwm : ∀ x, (t.tm x).pwm = (s.tm x).pwm ++
      if isPwmMode (ccpMode (s.ccp i)) = true ∧ s.pwmTimer i = x then [i] else []) : t.Listed := by
  obtain ⟨hcn, hc, hpn, hp⟩ := hs
  have htimer (j : CcpId) : t.pwmTimer j = s.pwmTimer j := congrArg (fun u => ptselTimer (ccpPtsel u)) (hccp j)
  refine ⟨hcmp ▸ nodup_append_unit hc hcn, fun j => ?_, fun x => hpwm x ▸ nodup_append_unit (hp x) (hpn x),
    fun x j => ?_⟩
  · rw [hcmp, hccp]
    exact mem_append_unit hc j
  · rw [hpwm, hccp, htimer]
    exact mem_append_unit (hp x) j

/-- `Enter` puts the unit into the list of its mode. -/
theorem ccpEnter_listed (i : CcpId) {s : State} (hs : ListedBut i s) : (ccpEnter i s).Listed := by
  rcases ccpEnter_cases i s with ⟨hmc, hmp, h⟩ | ⟨hm, u, v, hu, h⟩ | ⟨hm, u, hu, h⟩
  · exact h.sameLists.listed (listed_of_listedBut hs (fun _ => rfl) (by simp [hmc]) (by simp [hmp]))
  · rw [← hu.sameLists.mode i] at hm
    refine h.sameLists.listed (listed_of_listedBut (hu.sameLists.listedBut hs) (fun _ => rfl) ?_ fun x => ?_)
    · simp [hm]
    · rw [if_neg (by simp [pwm_false_of_compare hm]), List.append_nil]
      rfl
  · rw [← hu.sameLists.mode i] at hm
    refine h.sameLists.listed (listed_of_listedBut (hu.sameLists.listedBut hs) (fun _ => by simp) ?_ fun x => ?_)
    · rw [if_neg (compare_ne_of_pwm hm), List.append_nil, setTm_t1]
    · by_cases hx : x = u.pwmTimer i
      · subst hx
        rw [setTm_tm_same, if_pos ⟨hm, rfl⟩]
      · rw [setTm_tm_other _ _ _ _ hx, if_neg fun hp => hx hp.2.symm, List.append_nil]

/-- PUT CCPiCON and CCPiTSEL keep the lists exact (R280). -/
theorem writeCcpMode_listed (i : CcpId) (con tsel : Byte) {s : State} (hs : s.Listed) :
    (writeCcpMode signal i con tsel s).Listed := by
  unfold writeCcpMode
  dsimp only
  split
  · rename_i h
    obtain ⟨hmode, -, hptsel⟩ := h
    exact (sameLists_setCcp (u := { s.ccp i with con := con, tsel := tsel }) hmode hptsel).listed hs
  · exact (stands_refresh _ _).sameLists.listed
      (ccpEnter_listed i (listedBut_setCcp (ccpLeave_listedBut i hs) _))

/-- Every PUT keeps the lists exact. -/
theorem regPut_listed (r : Reg) (v : Byte) {s : State} (hs : s.Listed) : (regPut r v s).Listed := by
  by_cases hc : ∃ i, r = .ccpcon i
  · obtain ⟨i, rfl⟩ := hc
    exact writeCcpMode_listed i _ _ hs
  by_cases ht : ∃ i, r = .ccptsel i
  · obtain ⟨i, rfl⟩ := ht
    exact writeCcpMode_listed i _ _ hs
  · exact ((stored_onWrite r _ s).lists (fun i e => hc ⟨i, e⟩) fun i e => ht ⟨i, e⟩).listed hs

/-! ### Callbacks and the firing loop -/

theorem sameLists_t0OvfCallback (s : State) : SameLists s (t0OvfCallback signal s) :=
  Stands.sameLists ((stands_signal _ _).after ((stands_raiseIF _ _).after ((stands_schedule _ _ _).after stands_t0)))

theorem sameLists_t1BrkCallback (s : State) : SameLists s (t1BrkCallback signal s) := by
  have hroll : Stands s (if s.t1.breakKind.roll then t1Rollover signal s else s) :=
    stands_ite (sig_t1Rollover sig_signal s).stands (.refl s)
  exact Stands.sameLists ((sig_t1Recompute _).stands.after ((stands_foldl _ _ (fun u _ =>
    stands_ite (sig_compareMatch sig_signal _ u).stands (.refl u)) _).after hroll))

/-- A one-shot end clears ON, which no list depends on (R241). -/
theorem sameLists_t2EndRun (x : T2Id) (s : State) : SameLists s (t2EndRun x s) :=
  sameLists_ite (.refl s) (sameLists_ite ((stands_t2Resubscribe _ _ _).sameLists.after (sameLists_setTm rfl))
    (sameLists_setTm rfl))

theorem stands_t2RunAfter (x : T2Id) (s : State) : Stands s (t2RunAfter x s) := stands_ite (.refl s) stands_setTm

theorem stands_t2Postscale (x : T2Id) (s : State) : Stands s (t2Postscale x s) :=
  stands_ite ((stands_raiseIF _ _).after stands_setTm) stands_setTm

theorem stands_t2Advance (x : T2Id) (n : Nat) (s : State) : Stands s (t2Advance x n s) := stands_setTm

theorem stands_dutyMatch (i : CcpId) (s : State) : Stands s (dutyMatch signal i s) :=
  (sig_setMod sig_signal _ _ _).stands.after stands_setCcp

theorem stands_periodStart (i : CcpId) (s : State) : Stands s (periodStart signal i s) := by
  have h (m : Level) (dc : Nat) (armed : Bool) :
      Stands s (setMod signal i m (s.setCcp i { s.ccp i with dcLatched := dc, dutyArmed := armed })) :=
    (sig_setMod sig_signal _ _ _).stands.after stands_setCcp
  exact stands_ite (.refl s) (stands_ite (h _ _ _) (stands_ite (h _ _ _) (h _ _ _)))

theorem sameLists_t2Period (x : T2Id) (s : State) : SameLists s (t2Period signal x s) :=
  (stands_foldl _ _ (fun s i => stands_periodStart i s) _).sameLists.after
    ((stands_t2RunAfter _ _).sameLists.after ((sameLists_t2EndRun _ _).after
      ((stands_t2Postscale _ _).after ((stands_signal _ _).after (stands_t2Advance _ _ s))).sameLists))

theorem sameLists_t2BrkCallback (x : T2Id) (s : State) : SameLists s (t2BrkCallback signal x s) := by
  have hduties : SameLists s ((s.tm x).pwm.foldl
      (fun u i => if maskHas (s.tm x).breakMask (dutyBit i) then dutyMatch signal i u else u) s) :=
    (stands_foldl _ _ (fun u i => stands_ite (stands_dutyMatch i u) (.refl u)) s).sameLists
  have hwrap (c : Bool) (u : State) : SameLists u (if c then t2Advance x 256 u else u) :=
    sameLists_ite (stands_t2Advance _ _ u).sameLists (.refl u)
  have hperiod (c : Bool) (u : State) : SameLists u (if c then t2Period signal x u else u) :=
    sameLists_ite (sameLists_t2Period _ u) (.refl u)
  exact sameLists_ite ((sig_t2Place _ _ _).stands.sameLists.after hduties)
    ((sig_t2Recompute _ _).stands.sameLists.after ((hperiod _ _).after ((hwrap _ _).after hduties)))

theorem sameLists_ccpDbCallback (i : CcpId) (s : State) : SameLists s (ccpDbCallback signal i s) := by
  unfold ccpDbCallback
  dsimp only
  split
  · exact Stands.sameLists (stands_ite ((stands_refresh _ _).after stands_setCcp) stands_setCcp)
  · exact Stands.sameLists stands_setCcp

theorem sameLists_ccpPulseCallback (i : CcpId) (s : State) : SameLists s (ccpPulseCallback signal i s) :=
  Stands.sameLists (stands_ite ((stands_refresh _ _).after (sig_setOutput _ _ _ s).stands) (.refl s))

theorem sameLists_oscOstCallback (s : State) : SameLists s (oscOstCallback signal s) := by
  unfold oscOstCallback
  split
  · split
    · exact Stands.sameLists ((stands_republish _ _).after stands_osc)
    · exact .refl s
  · exact .refl s

theorem sameLists_ncoOvfCallback (s : State) : SameLists s (ncoOvfCallback signal s) :=
  Stands.sameLists ((stands_ncoRecompute _).after ((sig_ncoOverflow sig_signal _ _).stands.after stands_nco))

/-- A conversion's result is written over ADRES, which no list depends on (R423). -/
theorem sameLists_adcSeqCallback (s : State) : SameLists s (adcSeqCallback signal s) := by
  have hadc (u : State) (a : Adc) : SameLists u { u with adc := a } := ⟨rfl, fun _ => rfl, fun _ => rfl, fun _ => rfl⟩
  have hquantize : SameLists s (quantize s).2 := by
    unfold quantize
    split
    · exact (stands_emit _ s).sameLists
    · exact .refl s
  unfold adcSeqCallback
  split
  · exact .refl s
  · exact (stands_reschedule _ _ _).sameLists.after (hadc s _)
  · exact ((stands_signal _ _).after (stands_raiseIF _ _)).sameLists.after ((hadc _ _).after ((hadc _ _).after
      ((hadc _ _).after hquantize)))

/-- No callback touches the lists (R138). -/
theorem sameLists_callback (t : TrigId) (s : State) : SameLists s (callback t s) := by
  cases t with
  | t0Ovf => exact sameLists_t0OvfCallback s
  | t1Brk => exact sameLists_t1BrkCallback s
  | tBrk x => exact sameLists_t2BrkCallback x s
  | ccpDb i => exact sameLists_ccpDbCallback i s
  | ccpPulse i => exact sameLists_ccpPulseCallback i s
  | oscSettle => exact Stands.sameLists (stands_ite stands_osc (.refl s))
  | oscOst => exact sameLists_oscOstCallback s
  | ncoOvf => exact sameLists_ncoOvfCallback s
  | ncoPulse => exact Stands.sameLists (stands_ite ((sig_ncoOutput sig_signal _).stands.after stands_nco) (.refl s))
  | adcSeq => exact sameLists_adcSeqCallback s
  | ext j => exact (stands_emit _ s).sameLists

/-- The firing loop leaves the lists (R136). -/
theorem sameLists_advanceLoop (n : Nat) {s t : State} (h : advanceLoop n s = some t) : SameLists s t := by
  induction n generalizing s with
  | zero =>
    unfold advanceLoop at h
    split at h
    · cases h; exact .refl _
    · cases h
  | succ n ih =>
    unfold advanceLoop at h
    split at h
    · cases h; exact .refl _
    · rename_i e rest _
      have hbefore : Stands s { s with queue := rest, firing := some (e.trig, e.cycle) } := stands_of_units rfl
      have hafter (u : State) : Stands u { u with firing := none } := stands_of_units rfl
      exact (hbefore.sameLists.trans ((sameLists_callback _ _).trans (hafter _).sameLists)).trans (ih h)

theorem sameLists_advance (s : State) : Ensures (SameLists s) (advance s) := fun _ h =>
  let ⟨n, hn⟩ := advance_next_iff.1 h
  sameLists_advanceLoop n hn

/-! ### Commands -/

theorem stands_sleepT0 (ran : Bool) (v : Byte) (s : State) : Stands s (sleepT0 ran v s) :=
  stands_ite (stands_t0Stop v s) (.refl s)

theorem stands_sleepT1 (ran : Bool) (v : Half) (s : State) : Stands s (sleepT1 ran v s) :=
  stands_ite (stands_t1Update v s) (.refl s)

theorem stands_sleepT2 (x : T2Id) (ran : Bool) (v : Byte) (s : State) : Stands s (sleepT2 x ran v s) :=
  stands_ite (stands_t2Update x v s) (.refl s)

theorem stands_sleeping (b : Bool) (s : State) : Stands s { s with sleeping := b } := stands_of_units rfl

/-- SLEEP writes no control register and no list (R455). -/
theorem stands_goToSleep (s : State) : Stands s (goToSleep s) := by
  have hstop : Stands s (sleepT2 .t6 s.t6.run (t2Count s .t6) (sleepT2 .t4 s.t4.run (t2Count s .t4)
      (sleepT2 .t2 s.t2.run (t2Count s .t2) (sleepT1 s.t1.run (t1Count s)
        (sleepT0 s.t0.run (t0Count s) { ncoSync s with sleeping := true }))))) :=
    (stands_sleepT2 _ _ _ _).after ((stands_sleepT2 _ _ _ _).after ((stands_sleepT2 _ _ _ _).after
      ((stands_sleepT1 _ _ _).after ((stands_sleepT0 _ _ _).after ((stands_sleeping _ _).after (stands_ncoSync s))))))
  exact stands_ite ((stands_cancel _ _).after hstop) hstop

theorem stands_wakeT0 (s : State) : Stands s (wakeT0 s) := stands_ite (stands_t0Start _ s) (.refl s)

theorem stands_wakeT1 (s : State) : Stands s (wakeT1 s) := stands_ite (stands_t1Update _ s) (.refl s)

theorem stands_wakeT2 (x : T2Id) (s : State) : Stands s (wakeT2 x s) := stands_ite (stands_t2Update _ _ s) (.refl s)

theorem stands_wakeNco (s : State) : Stands s (wakeNco s) :=
  stands_ite ((stands_ncoRecompute _).after (stands_ncoReanchor s)) (.refl s)

/-- WAKE writes no control register and no list (R456). -/
theorem stands_wakeUp (s : State) : Stands s (wakeUp s) :=
  (stands_oscDerive _).after ((stands_wakeNco _).after ((stands_wakeT2 _ _).after ((stands_wakeT2 _ _).after
    ((stands_wakeT2 _ _).after ((stands_wakeT1 _).after ((stands_wakeT0 _).after (stands_sleeping _ s)))))))

/-- RESET starts from blank units and writes no list after that (R470). -/
theorem resetBlock_listed (s : State) : (resetBlock s).Listed := by
  have hbase : (resetBase s).Listed :=
    listed_of_blank rfl (fun x => by cases x <;> rfl) fun i => by cases i <;> rfl
  exact ((stands_foldl _ _ (fun u _ => stands_signal _ u) _).after (stands_oscDerive _)).sameLists.listed hbase

theorem stands_setPin_drive (s : State) (p : PinIx) (m : Pin) : Stands s (signal (.drive p) (s.setPin p m)) :=
  (stands_signal _ _).after (stands_of_units rfl)

theorem listed_execSetv (ch : AdcInput) (uv : Long) {s : State} (hs : s.Listed) :
    Ensures State.Listed (execSetv ch uv s) := by
  cases ch with
  | chan c => exact ensures_ite (ensures_next hs) (ensures_next hs)
  | vrefHi => exact ensures_next hs
  | vrefLo => exact ensures_next hs

/-- Every command keeps the timers' lists exact. -/
theorem exec_listed (i : Instr) {s : State} (hs : s.Listed) : Ensures State.Listed (exec i s) := by
  have hkeep {t : State} (h : Stands s t) : t.Listed := h.sameLists.listed hs
  have hput (r : Reg) (v : Byte) : (regPut r v s).Listed := regPut_listed r v hs
  cases i with
  | now => exact ensures_next hs
  | sched t c => exact ensures_ite (ensures_next (hkeep (stands_schedule t _ s))) (ensures_next hs)
  | cancel t => exact ensures_ite (ensures_next hs) (ensures_next hs)
  | resched t c => exact ensures_ite (ensures_next (hkeep (stands_reschedule t _ s))) (ensures_next hs)
  | advance => exact fun t h => (sameLists_advance s t h).listed hs
  | step => exact ensures_ite (ensures_next hs) fun t h => (sameLists_advance { s with now := s.now + 1 } t h).listed hs
  | setsrc p src => exact ensures_onPin (hkeep (stands_setPin_drive s p _)) hs
  | setctl p ctl => exact ensures_onPin (hkeep (stands_setPin_drive s p _)) hs
  | addsink p k => exact ensures_ite (ensures_onPin hs hs) (ensures_next hs)
  | rmsink p k => exact ensures_ite (ensures_onPin hs hs) (ensures_next hs)
  | updpin p => exact ensures_onPin (hkeep (stands_signal _ s)) hs
  | drive p l => exact ensures_onPin (hkeep (stands_setPin_drive s p _)) hs
  | pinrd p => exact ensures_onPin hs hs
  | attach k r => exact ensures_ite (ensures_next hs) (ensures_next hs)
  | detach k r => exact ensures_ite (ensures_next hs) (ensures_next hs)
  | publish k sub v => exact ensures_next (hkeep (stands_signal _ s))
  | put v a => exact ensures_execPut v a s (hput · v) fun _ => hs
  | get a => exact ensures_execGet a s (fun _ => hs) fun _ => hs
  | getv a => exact ensures_execGet a s (fun _ => hs) fun _ => hs
  | setv ch uv => exact listed_execSetv ch uv hs
  | getfreq => exact ensures_next hs
  | sleep => exact ensures_ite (ensures_next hs) (ensures_next (hkeep (stands_goToSleep s)))
  | wake => exact ensures_ite (ensures_next (hkeep (stands_wakeUp s))) (ensures_next hs)
  | reset => exact ensures_next (resetBlock_listed s)
  | _ v => exact ensures_next (hput _ v)

/-- Settles O49, by `exec_listed`: the queue of commands has no part in the lists. -/
theorem stepKeepsListed : Obligations.StepKeepsListed :=
  fun _ t hs => step_keeps hs (fun _ => hs) (fun i _ => exec_listed i hs) t

end Sys2Proof.Machine
end

section
/-!
Proofs of the statements of 20_memory.md: what a command answers (R95, R142), what the queries reply (R87, R161, R162), and
what a register command on an unmapped address does (R82).
-/

namespace Sys2Proof.Machine

open Sys2Proof

/-! ### Commands that answer a next state -/

/-- The result is a next state: neither a stop nor a refusal. -/
def Answers (r : Result) : Prop := ∃ t, r = .next t

theorem answers_next (t : State) : Answers (.next t) := ⟨t, rfl⟩

theorem answers_ite {c : Prop} [Decidable c] {a b : Result} (ha : Answers a) (hb : Answers b) :
    Answers (if c then a else b) := by split <;> assumption

theorem answers_onPin (p : PinIx) (s t : State) : Answers (onPin p s t) := answers_next _

theorem answers_execPut (v : Byte) (a : Half) (s : State) : Answers (execPut v a s) := by
  unfold execPut
  split <;> exact answers_next _

theorem answers_execGet (a : Half) (s : State) : Answers (execGet a s) := by
  unfold execGet
  split <;> exact answers_next _

theorem answers_execSetv (ch : AdcInput) (uv : Long) (s : State) : Answers (execSetv ch uv s) := by
  cases ch with
  | chan c => exact answers_ite (answers_next _) (answers_next _)
  | vrefHi => exact answers_next _
  | vrefLo => exact answers_next _

/-- Only the commands that run the firing loop can stop the block (R136, R142). -/
theorem exec_answers {i : Instr} (hadvance : i ≠ .advance) (hstep : i ≠ .step) (s : State) : Answers (exec i s) := by
  have hchoice {c : Prop} [Decidable c] (t u : State) : Answers (if c then .next t else .next u) :=
    answers_ite (answers_next t) (answers_next u)
  cases i with
  | now => exact answers_next _
  | sched t c => exact hchoice _ _
  | cancel t => exact hchoice _ _
  | resched t c => exact hchoice _ _
  | advance => exact absurd rfl hadvance
  | step => exact absurd rfl hstep
  | setsrc p src => exact answers_onPin p s _
  | setctl p ctl => exact answers_onPin p s _
  | addsink p k => exact answers_ite (answers_onPin p s _) (answers_next _)
  | rmsink p k => exact answers_ite (answers_onPin p s _) (answers_next _)
  | updpin p => exact answers_onPin p s _
  | drive p l => exact answers_onPin p s _
  | pinrd p => exact answers_onPin p s _
  | attach k r => exact hchoice _ _
  | detach k r => exact hchoice _ _
  | publish k sub v => exact answers_next _
  | put v a => exact answers_execPut v a s
  | get a => exact answers_execGet a s
  | getv a => exact answers_execGet a s
  | setv ch uv => exact answers_execSetv ch uv s
  | getfreq => exact answers_next _
  | sleep => exact hchoice _ _
  | wake => exact hchoice _ _
  | reset => exact answers_next _
  | _ v => exact answers_next (regPut _ v s)

/-- ADVANCE answers a next state or hangs; no third outcome (R136, R142). -/
theorem advance_answers_or_hangs (s : State) : Answers (advance s) ∨ advance s = .fault .advanceHang := by
  rcases advance_cases s with ⟨_, t, _, h⟩ | ⟨_, h⟩
  · exact .inl ⟨t, h⟩
  · exact .inr h

/-- Settles O6: `exec_answers` for the commands without a firing loop, the laws of `advance` for the loop, and STEP by its
definition. -/
theorem everyCommandRuns : Obligations.EveryCommandRuns := fun _ s =>
  ⟨fun hadvance hstep => exec_answers hadvance hstep s, fun _ => advance_next_iff, advance_hang_iff,
    advance_answers_or_hangs s, rfl⟩

/-! ### Register commands on a mapped and on an unmapped address -/

/-- GET of a mapped cell replies `Read(a)` (R161, R162). -/
theorem execGet_mapped {a : Half} {r : Reg} (h : regOfAddr a = some r) (s : State) :
    execGet a s = .next (emit (.reply (readReg r s).toNat) s) := by rw [execGet, h]

/-- GET of an unmapped address records a fault and replies nothing (R82). -/
theorem execGet_unmapped {a : Half} (h : regOfAddr a = none) (s : State) :
    execGet a s = .next (raiseFault (badAddressKind a) s) := by rw [execGet, h]

/-- GETV is the same read as GET: no read has a side effect (R161, R162). -/
theorem execGetv_eq_execGet (a : Half) (s : State) : execGetv a s = execGet a s := rfl

/-- PUT to an unmapped address records a fault and writes no cell (R82). -/
theorem execPut_unmapped (v : Byte) {a : Half} (h : regOfAddr a = none) (s : State) :
    execPut v a s = .next (raiseFault (badAddressKind a) s) := by rw [execPut, h]

/-- Settles O12: each query is an `emit` of its reply, PINRD under the check of its pin, GET and GETV at a mapped cell. -/
theorem queriesReplyOnly : Obligations.QueriesReplyOnly := by
  intro s replies
  refine ⟨rfl, fun p hp => onPin_present hp, rfl, fun a r hr => ⟨execGet_mapped hr s, ?_⟩⟩
  exact (execGetv_eq_execGet a s).trans (execGet_mapped hr s)

/-- Settles O22: the three commands look the address up alike, and where it names no cell they only raise the fault. -/
theorem unmappedAddresses : Obligations.UnmappedAddresses := fun a v s h =>
  ⟨execPut_unmapped v h s, execGet_unmapped h s, (execGetv_eq_execGet a s).trans (execGet_unmapped h s)⟩

end Sys2Proof.Machine
end

section
/-!
Laws of the identifier codes and the operand readers (30_encoding.md R102, R109 to R115): a code or an address names
at most one identifier, so a reader accepts exactly the field that the encoder writes.
-/

namespace Sys2Proof

/-! ### Codes: a code names at most one identifier -/

theorem clcOfIdx_eq_some {m : Nat} {n : ClcId} (h : clcOfIdx m = some n) : n.idx = m := by
  unfold clcOfIdx at h
  split at h <;> cases h <;> rfl

theorem clcInOfCode_eq_some {m : Nat} {n : ClcId} {y : Fin 4} (h : clcInOfCode m = some (n, y)) :
    clcInCode n y = m := by
  obtain ⟨n', hn, hq⟩ := Option.map_eq_some_iff.1 h
  obtain ⟨rfl, rfl⟩ := Prod.mk.inj hq
  have := clcOfIdx_eq_some hn
  simp only [clcInCode, Fin.ofNat]
  omega

theorem trigOfCode_eq_some {m : Nat} {t : TrigId} (h : trigOfCode m = some t) : t.code = m := by
  unfold trigOfCode at h
  split at h
  · cases h
    simp only [TrigId.code]
    omega
  · split at h <;> cases h <;> rfl

theorem chanOfCode_eq_some {m : Nat} {k : ChanKind} (h : chanOfCode m = some k) : k.code = m := by
  unfold chanOfCode at h
  split at h <;> cases h <;> rfl

theorem recvOfCode_eq_some {m : Nat} {r : RecvId} (h : recvOfCode m = some r) : r.code = m := by
  unfold recvOfCode at h
  split at h
  · cases h
    simp only [RecvId.code]
    omega
  · split at h
    · obtain ⟨⟨n, y⟩, hny, rfl⟩ := Option.map_eq_some_iff.1 h
      have := clcInOfCode_eq_some hny
      simp only [RecvId.code]
      omega
    · split at h <;> cases h <;> rfl

theorem srcOfCode_eq_some {m : Nat} {k : SrcId} (h : srcOfCode m = some k) : k.code = m := by
  unfold srcOfCode at h
  split at h
  · cases h
    simp only [SrcId.code]
    omega
  · split at h
    · obtain ⟨n, hn, rfl⟩ := Option.map_eq_some_iff.1 h
      have := clcOfIdx_eq_some hn
      simp only [SrcId.code]
      omega
    · split at h <;> cases h <;> rfl

theorem ctlOfCode_eq_some {m : Nat} {k : CtlId} (h : ctlOfCode m = some k) : k.code = m := by
  unfold ctlOfCode at h
  split at h
  · cases h
    simp only [CtlId.code]
    omega
  · split at h
    · obtain ⟨n, hn, rfl⟩ := Option.map_eq_some_iff.1 h
      have := clcOfIdx_eq_some hn
      simp only [CtlId.code]
      omega
    · split at h <;> cases h <;> rfl

theorem sinkOfCode_eq_some {m : Nat} {k : SinkId} (h : sinkOfCode m = some k) : k.code = m := by
  unfold sinkOfCode at h
  split at h
  · obtain ⟨⟨n, y⟩, hny, rfl⟩ := Option.map_eq_some_iff.1 h
    have := clcInOfCode_eq_some hny
    simp only [SinkId.code]
    omega
  · split at h <;> cases h <;> rfl

theorem levelOfCode_eq_some {m : Nat} {l : Level} (h : levelOfCode m = some l) : l.code = m := by
  unfold levelOfCode at h
  split at h <;> cases h <;> rfl

theorem adcInputOfCode_eq_some {m : Nat} {c : AdcInput} (h : adcInputOfCode m = some c) : c.code = m := by
  unfold adcInputOfCode at h
  split at h
  · cases h
    rfl
  · split at h <;> cases h <;> rfl

/-! ### Operands: the reader of each operand accepts exactly the encodings -/

@[simp] theorem bind_eq_ok_iff {ε α β : Type} {x : Except ε α} {f : α → Except ε β} {b : β} :
    x >>= f = .ok b ↔ ∃ a, x = .ok a ∧ f a = .ok b := by
  cases x with
  | error e => exact ⟨nofun, fun ⟨_, h, _⟩ => nomatch h⟩
  | ok a => exact ⟨fun h => ⟨a, rfl, h⟩, fun ⟨_, h, hf⟩ => by cases h; exact hf⟩

theorem byteOf_eq {n : Nat} {a : Byte} (h : n = a.toNat) : byteOf n = a := by simp [byteOf, h]

theorem halfOf_eq {n : Nat} {b : Half} (h : n = b.toNat) : halfOf n = b := by simp [halfOf, h]

@[simp] theorem zeroA_eq_ok_iff {hdr : Word} {u : Unit} : zeroA hdr = .ok u ↔ aField hdr = 0 := by simp [zeroA]

@[simp] theorem zeroB_eq_ok_iff {hdr : Word} {u : Unit} : zeroB hdr = .ok u ↔ bField hdr = 0 := by simp [zeroB]

@[simp] theorem pinOf_eq_ok_iff {a : Byte} {p : PinIx} : pinOf a = .ok p ↔ a = byteOf p := by
  refine ⟨fun h => ?_, fun h => h ▸ pinOf_byteOf p⟩
  unfold pinOf at h
  split at h <;> cases h
  exact (byteOf_eq rfl).symm

@[simp] theorem hostTrigOf_eq_ok_iff {a : Byte} {t : TrigId} :
    hostTrigOf a = .ok t ↔ t.isExt = true ∧ a = byteOf t.code := by
  constructor
  · intro h
    unfold hostTrigOf at h
    split at h
    · cases h
    next t' ht =>
      split at h <;> cases h
      exact ⟨‹_›, (byteOf_eq (trigOfCode_eq_some ht)).symm⟩
  · rintro ⟨hext, rfl⟩
    simp [hostTrigOf, trigOfCode_code, hext]

@[simp] theorem srcOperand_eq_ok_iff {b : Half} {k : Option SrcId} :
    srcOperand b = .ok k ↔ b = optCode (k.map SrcId.code) := by
  refine ⟨fun h => ?_, fun h => h ▸ srcOperand_code k⟩
  unfold srcOperand at h
  split at h
  · cases h; assumption
  · split at h <;> cases h
    exact (halfOf_eq (srcOfCode_eq_some ‹_›)).symm

@[simp] theorem ctlOperand_eq_ok_iff {b : Half} {k : Option CtlId} :
    ctlOperand b = .ok k ↔ b = optCode (k.map CtlId.code) := by
  refine ⟨fun h => ?_, fun h => h ▸ ctlOperand_code k⟩
  unfold ctlOperand at h
  split at h
  · cases h; assumption
  · split at h <;> cases h
    exact (halfOf_eq (ctlOfCode_eq_some ‹_›)).symm

@[simp] theorem hostSinkOf_eq_ok_iff {b : Half} {k : SinkId} :
    hostSinkOf b = .ok k ↔ k.hostWired = true ∧ b = halfOf k.code := by
  constructor
  · intro h
    unfold hostSinkOf at h
    split at h
    · cases h
    next k' hk =>
      split at h <;> cases h
      exact ⟨‹_›, (halfOf_eq (sinkOfCode_eq_some hk)).symm⟩
  · rintro ⟨hwired, rfl⟩
    simp [hostSinkOf, sinkOfCode_code, hwired]

@[simp] theorem hostRecvOf_eq_ok_iff {b : Half} {r : RecvId} :
    hostRecvOf b = .ok r ↔ r.isHost = true ∧ b = halfOf r.code := by
  constructor
  · intro h
    unfold hostRecvOf at h
    split at h
    · cases h
    next r' hr =>
      split at h <;> cases h
      exact ⟨‹_›, (halfOf_eq (recvOfCode_eq_some hr)).symm⟩
  · rintro ⟨hhost, rfl⟩
    simp [hostRecvOf, recvOfCode_code, hhost]

@[simp] theorem chanOf_eq_ok_iff {a : Byte} {k : ChanKind} : chanOf a = .ok k ↔ a = byteOf k.code := by
  constructor
  · intro h
    unfold chanOf at h
    split at h <;> cases h
    exact (byteOf_eq (chanOfCode_eq_some ‹_›)).symm
  · rintro rfl
    simp [chanOf, chanOfCode_code]

@[simp] theorem levelOf_eq_ok_iff {b : Half} {l : Level} : levelOf b = .ok l ↔ b = halfOf l.code := by
  refine ⟨fun h => ?_, fun h => h ▸ levelOf_code l⟩
  unfold levelOf at h
  split at h
  · cases h
    exact (halfOf_eq (levelOfCode_eq_some ‹_›)).symm
  · split at h <;> cases h

@[simp] theorem adcInputOf_eq_ok_iff {a : Byte} {c : AdcInput} : adcInputOf a = .ok c ↔ a = byteOf c.code := by
  refine ⟨fun h => ?_, fun h => h ▸ adcInputOf_code c⟩
  unfold adcInputOf at h
  split at h <;> cases h
  exact (byteOf_eq (adcInputOfCode_eq_some ‹_›)).symm

/-! ### Addresses: a cell has one address -/

theorem place_of_coreRegOf {o : Nat} {r : Reg} (h : coreRegOf o = some r) : r.place = (0x00, o) := by
  unfold coreRegOf at h
  split at h
  · cases h; rfl
  · split at h <;> cases h
    subst o; rfl

theorem place_of_timer0RegOf {o : Nat} {r : Reg} (h : timer0RegOf o = some r) : r.place = (0x01, o) := by
  unfold timer0RegOf at h
  split at h <;> cases h <;> rfl

theorem place_of_timer1RegOf {o : Nat} {r : Reg} (h : timer1RegOf o = some r) : r.place = (0x02, o) := by
  unfold timer1RegOf at h
  split at h <;> cases h <;> rfl

theorem place_of_tmrRegOf {x : T2Id} {o : Nat} {r : Reg} (h : tmrRegOf x o = some r) : r.place = (x.unit, o) := by
  unfold tmrRegOf at h
  split at h <;> cases h <;> rfl

theorem place_of_ccpRegOf {i : CcpId} {o : Nat} {r : Reg} (h : ccpRegOf i o = some r) : r.place = (i.unit, o) := by
  unfold ccpRegOf at h
  split at h <;> cases h <;> rfl

theorem place_of_oscRegOf {o : Nat} {r : Reg} (h : oscRegOf o = some r) : r.place = (0x08, o) := by
  unfold oscRegOf at h
  split at h <;> cases h <;> rfl

theorem place_of_clcRegOf {n : ClcId} {o : Nat} {r : Reg} (h : clcRegOf n o = some r) : r.place = (n.unit, o) := by
  unfold clcRegOf at h
  split at h <;> cases h <;> rfl

theorem place_of_ncoRegOf {o : Nat} {r : Reg} (h : ncoRegOf o = some r) : r.place = (0x0D, o) := by
  unfold ncoRegOf at h
  split at h <;> cases h <;> rfl

theorem place_of_adcRegOf {o : Nat} {r : Reg} (h : adcRegOf o = some r) : r.place = (0x0E, o) := by
  unfold adcRegOf at h
  split at h <;> cases h <;> rfl

theorem place_of_regAt {u o : Nat} {r : Reg} (h : regAt u o = some r) : r.place = (u, o) := by
  unfold regAt at h
  split at h
  · exact place_of_coreRegOf h
  · exact place_of_timer0RegOf h
  · exact place_of_timer1RegOf h
  · exact place_of_tmrRegOf h
  · exact place_of_tmrRegOf h
  · exact place_of_tmrRegOf h
  · exact place_of_ccpRegOf h
  · exact place_of_ccpRegOf h
  · exact place_of_oscRegOf h
  · exact place_of_clcRegOf h
  · exact place_of_clcRegOf h
  · exact place_of_clcRegOf h
  · exact place_of_clcRegOf h
  · exact place_of_ncoRegOf h
  · exact place_of_adcRegOf h
  · cases h

theorem regOfAddr_eq_some_iff {a : Half} {r : Reg} : regOfAddr a = some r ↔ a = r.addr := by
  refine ⟨fun h => ?_, fun h => h ▸ regOfAddr_addr r⟩
  have hplace := place_of_regAt h
  refine (halfOf_eq ?_).symm
  rw [hplace, unitOf]
  omega

end Sys2Proof
end

section
/-!
Proofs of the statements of 30_encoding.md about well-formed commands (R101 to R105). `CmdRow` is the command table of
R104 as a relation; the decoder accepts exactly its rows, and the encoder writes a row's fields.
-/

namespace Sys2Proof

/-! ### The rows of the command table -/

/-- A row of the command table (R104) at its operands: the header's three fields, the argument and the command. The
argument of a format H row is not read. -/
inductive CmdRow : Nat → Byte → Half → Long → Instr → Prop
  | now (arg : Long) : CmdRow 0x01 0 0 arg .now
  | sched (t : TrigId) (c : Long) (ht : t.isExt = true) : CmdRow 0x02 (byteOf t.code) 0 c (.sched t c)
  | cancel (t : TrigId) (arg : Long) (ht : t.isExt = true) : CmdRow 0x03 (byteOf t.code) 0 arg (.cancel t)
  | resched (t : TrigId) (c : Long) (ht : t.isExt = true) : CmdRow 0x04 (byteOf t.code) 0 c (.resched t c)
  | advance (arg : Long) : CmdRow 0x05 0 0 arg .advance
  | step (arg : Long) : CmdRow 0x06 0 0 arg .step
  | setsrc (p : PinIx) (k : Option SrcId) (arg : Long) :
      CmdRow 0x10 (byteOf p) (optCode (k.map SrcId.code)) arg (.setsrc p k)
  | setctl (p : PinIx) (k : Option CtlId) (arg : Long) :
      CmdRow 0x11 (byteOf p) (optCode (k.map CtlId.code)) arg (.setctl p k)
  | addsink (p : PinIx) (k : SinkId) (arg : Long) (hk : k.hostWired = true) :
      CmdRow 0x12 (byteOf p) (halfOf k.code) arg (.addsink p k)
  | rmsink (p : PinIx) (k : SinkId) (arg : Long) (hk : k.hostWired = true) :
      CmdRow 0x13 (byteOf p) (halfOf k.code) arg (.rmsink p k)
  | updpin (p : PinIx) (arg : Long) : CmdRow 0x14 (byteOf p) 0 arg (.updpin p)
  | drive (p : PinIx) (l : Level) (arg : Long) : CmdRow 0x15 (byteOf p) (halfOf l.code) arg (.drive p l)
  | pinrd (p : PinIx) (arg : Long) : CmdRow 0x16 (byteOf p) 0 arg (.pinrd p)
  | attach (k : ChanKind) (r : RecvId) (arg : Long) (hr : r.isHost = true) :
      CmdRow 0x18 (byteOf k.code) (halfOf r.code) arg (.attach k r)
  | detach (k : ChanKind) (r : RecvId) (arg : Long) (hr : r.isHost = true) :
      CmdRow 0x19 (byteOf k.code) (halfOf r.code) arg (.detach k r)
  | publish (k : ChanKind) (sub : Half) (v : Long) : CmdRow 0x1A (byteOf k.code) sub v (.publish k sub v)
  | putCell (v : Byte) (r : Reg) (arg : Long) : CmdRow 0x20 v r.addr arg (putRow v r)
  | putUnmapped (v : Byte) (a : Half) (arg : Long) (ha : regOfAddr a = none) : CmdRow 0x20 v a arg (.put v a)
  | get (a : Half) (arg : Long) : CmdRow 0x21 0 a arg (.get a)
  | getv (a : Half) (arg : Long) : CmdRow 0x22 0 a arg (.getv a)
  | setv (c : AdcInput) (v : Long) : CmdRow 0x28 (byteOf c.code) 0 v (.setv c v)
  | getfreq (arg : Long) : CmdRow 0x29 0 0 arg .getfreq
  | sleep (arg : Long) : CmdRow 0x30 0 0 arg .sleep
  | wake (arg : Long) : CmdRow 0x31 0 0 arg .wake
  | reset (arg : Long) : CmdRow 0x3F 0 0 arg .reset

section
variable {op : Nat} {a : Byte} {b : Half} {arg : Long} {i : Instr}

theorem CmdRow.at_header {hdr : Word} (h : CmdRow op a b arg i) (hop : opField hdr = op) (ha : aField hdr = a)
    (hb : bField hdr = b) : CmdRow (opField hdr) (aField hdr) (bField hdr) arg i := by
  subst hop ha hb
  exact h

theorem cmdRow_decodePut (v : Byte) (a : Half) (arg : Long) : CmdRow 0x20 v a arg (decodePut v a) := by
  unfold decodePut
  split
  next r hr =>
    rw [regOfAddr_eq_some_iff.1 hr]
    exact .putCell v r arg
  next ha => exact .putUnmapped v a arg ha

/-- A command that the decoder accepts is a row of the table at the header's fields: each opcode reads its own
operands (R104). -/
theorem cmdRow_of_decodeCmd {hdr : Word} (h : decodeCmd hdr arg = .ok i) :
    CmdRow (opField hdr) (aField hdr) (bField hdr) arg i := by
  unfold decodeCmd at h
  split at h <;>
    simp only [bind_eq_ok_iff, zeroA_eq_ok_iff, zeroB_eq_ok_iff, hostTrigOf_eq_ok_iff, pinOf_eq_ok_iff,
      srcOperand_eq_ok_iff, ctlOperand_eq_ok_iff, hostSinkOf_eq_ok_iff, levelOf_eq_ok_iff, chanOf_eq_ok_iff,
      hostRecvOf_eq_ok_iff, adcInputOf_eq_ok_iff, pure, Except.pure, Except.ok.injEq, reduceCtorEq] at h
  case h_1 hop => obtain ⟨-, ha, -, hb, rfl⟩ := h; exact (CmdRow.now arg).at_header hop ha hb
  case h_2 hop => obtain ⟨t, ⟨ht, ha⟩, -, hb, rfl⟩ := h; exact (CmdRow.sched t arg ht).at_header hop ha hb
  case h_3 hop => obtain ⟨t, ⟨ht, ha⟩, -, hb, rfl⟩ := h; exact (CmdRow.cancel t arg ht).at_header hop ha hb
  case h_4 hop => obtain ⟨t, ⟨ht, ha⟩, -, hb, rfl⟩ := h; exact (CmdRow.resched t arg ht).at_header hop ha hb
  case h_5 hop => obtain ⟨-, ha, -, hb, rfl⟩ := h; exact (CmdRow.advance arg).at_header hop ha hb
  case h_6 hop => obtain ⟨-, ha, -, hb, rfl⟩ := h; exact (CmdRow.step arg).at_header hop ha hb
  case h_7 hop => obtain ⟨p, ha, k, hb, rfl⟩ := h; exact (CmdRow.setsrc p k arg).at_header hop ha hb
  case h_8 hop => obtain ⟨p, ha, k, hb, rfl⟩ := h; exact (CmdRow.setctl p k arg).at_header hop ha hb
  case h_9 hop => obtain ⟨p, ha, k, ⟨hk, hb⟩, rfl⟩ := h; exact (CmdRow.addsink p k arg hk).at_header hop ha hb
  case h_10 hop => obtain ⟨p, ha, k, ⟨hk, hb⟩, rfl⟩ := h; exact (CmdRow.rmsink p k arg hk).at_header hop ha hb
  case h_11 hop => obtain ⟨p, ha, -, hb, rfl⟩ := h; exact (CmdRow.updpin p arg).at_header hop ha hb
  case h_12 hop => obtain ⟨p, ha, l, hb, rfl⟩ := h; exact (CmdRow.drive p l arg).at_header hop ha hb
  case h_13 hop => obtain ⟨p, ha, -, hb, rfl⟩ := h; exact (CmdRow.pinrd p arg).at_header hop ha hb
  case h_14 hop => obtain ⟨k, ha, r, ⟨hr, hb⟩, rfl⟩ := h; exact (CmdRow.attach k r arg hr).at_header hop ha hb
  case h_15 hop => obtain ⟨k, ha, r, ⟨hr, hb⟩, rfl⟩ := h; exact (CmdRow.detach k r arg hr).at_header hop ha hb
  case h_16 hop => obtain ⟨k, ha, rfl⟩ := h; exact (CmdRow.publish k _ arg).at_header hop ha rfl
  case h_17 hop => subst h; exact (cmdRow_decodePut _ _ arg).at_header hop rfl rfl
  case h_18 hop => obtain ⟨-, ha, rfl⟩ := h; exact (CmdRow.get _ arg).at_header hop ha rfl
  case h_19 hop => obtain ⟨-, ha, rfl⟩ := h; exact (CmdRow.getv _ arg).at_header hop ha rfl
  case h_20 hop => obtain ⟨c, ha, -, hb, rfl⟩ := h; exact (CmdRow.setv c arg).at_header hop ha hb
  case h_21 hop => obtain ⟨-, ha, -, hb, rfl⟩ := h; exact (CmdRow.getfreq arg).at_header hop ha hb
  case h_22 hop => obtain ⟨-, ha, -, hb, rfl⟩ := h; exact (CmdRow.sleep arg).at_header hop ha hb
  case h_23 hop => obtain ⟨-, ha, -, hb, rfl⟩ := h; exact (CmdRow.wake arg).at_header hop ha hb
  case h_24 hop => obtain ⟨-, ha, -, hb, rfl⟩ := h; exact (CmdRow.reset arg).at_header hop ha hb

theorem decodePut_addr (v : Byte) (r : Reg) : decodePut v r.addr = putRow v r := by
  rw [decodePut, regOfAddr_addr]

theorem decodePut_unmapped (v : Byte) {a : Half} (ha : regOfAddr a = none) : decodePut v a = .put v a := by
  rw [decodePut, ha]

/-- The decoder accepts every row of the table: each operand's reader accepts the field that the row writes. -/
theorem decodeCmd_of_cmdRow {hdr : Word}
    (h : CmdRow (opField hdr) (aField hdr) (bField hdr) arg i) : decodeCmd hdr arg = .ok i := by
  unfold decodeCmd
  generalize hop : opField hdr = op, ha : aField hdr = a, hb : bField hdr = b at h
  cases h
  case putCell r => exact congrArg Except.ok (decodePut_addr a r)
  case putUnmapped hun => exact congrArg Except.ok (decodePut_unmapped _ hun)
  all_goals simp [*, pure, Except.pure]

/-- The argument of a format H row is not read (R101). -/
theorem CmdRow.with_arg (h : CmdRow op a b arg i) (hH : isHA op = false) (arg' : Long) : CmdRow op a b arg' i := by
  cases h with
  | sched | resched | publish | setv => exact absurd hH (by decide)
  | _ => constructor <;> assumption

/-! ### The rows as encodings -/

theorem putRow_encoding (v : Byte) (r : Reg) : (putRow v r).wf = true ∧ encode (putRow v r) = hdrPut v r := by
  cases r with
  | cycle k => fin_cases k <;> exact ⟨rfl, rfl⟩
  | clcsel n y => cases n <;> fin_cases y <;> exact ⟨rfl, rfl⟩
  | clcgls n k => cases n <;> fin_cases k <;> exact ⟨rfl, rfl⟩
  | tmr x | pr x | tcon x | thlt x | tclkcon x | trst x | tstat x => cases x <;> exact ⟨rfl, rfl⟩
  | ccprl i | ccprh i | ccpcon i | ccptsel i | pwmcon i | ccpas i | ccpstat i | ccppol i =>
    cases i <;> exact ⟨rfl, rfl⟩
  | clccon n | clcpol n | clcstat n => cases n <;> exact ⟨rfl, rfl⟩
  | _ => exact ⟨rfl, rfl⟩

/-- The words after a header: the argument, low word first, of a format HA command, none of a format H command
(R101). -/
def operandWords (op : Nat) (arg : Long) : List Word := if isHA op then argWords arg else []

/-- The command of a row is well-formed and has the row's fields as its encoding. -/
theorem CmdRow.encoding (h : CmdRow op a b arg i) :
    i.wf = true ∧ encode i = mkHdr (byteOf op) a b :: operandWords op arg := by
  cases h with
  | putCell _ r => exact putRow_encoding a r
  | putUnmapped v a arg ha => exact ⟨Option.isNone_iff_eq_none.2 ha, rfl⟩
  | sched _ _ hwf | cancel _ _ hwf | resched _ _ hwf => exact ⟨hwf, rfl⟩
  | addsink _ _ _ hwf | rmsink _ _ _ hwf | attach _ _ _ hwf | detach _ _ _ hwf => exact ⟨hwf, rfl⟩
  | _ => exact ⟨rfl, rfl⟩

/-! ### Reading one command off the stream -/

theorem mkHdr_fields (w : Word) : mkHdr (byteOf (opField w)) (aField w) (bField w) = w := by
  have hhigh : w.extractLsb' 24 8 ++ w.extractLsb' 16 8 = w.extractLsb' 16 16 :=
    BitVec.extractLsb'_append_extractLsb'_eq_extractLsb' rfl
  have hwhole : w.extractLsb' 16 16 ++ w.extractLsb' 0 16 = w.extractLsb' 0 32 :=
    BitVec.extractLsb'_append_extractLsb'_eq_extractLsb' rfl
  rw [opField, byteOf_eq rfl, mkHdr, aField, bField, hhigh, hwhole]
  exact BitVec.extractLsb'_eq_self

theorem argWords_argOf (w1 w2 : Word) : argWords (argOf w1 w2) = [w1, w2] := by
  have hlow : (w2 ++ w1).extractLsb' 0 32 = w1 := BitVec.extractLsb'_append_eq_right
  have hhigh : (w2 ++ w1).extractLsb' 32 32 = w2 := BitVec.extractLsb'_append_eq_left
  exact congrArg₂ _ hlow (congrArg₂ _ hhigh rfl)

theorem finish_eq_command_iff {r : Except DecodeError Instr} {ws rest : List Word} :
    finish r ws = .command i rest ↔ r = .ok i ∧ ws = rest := by
  cases r <;> simp [finish]

/-- The decoder of a format H command (R101). -/
theorem decode_h {hdr : Word} (hH : isHA (opField hdr) = false) (ws : List Word) :
    decode (hdr :: ws) = finish (decodeCmd hdr 0) ws := by simp [decode, hH]

/-- The decoder of a format HA command that is complete (R101). -/
theorem decode_ha {hdr : Word} (hHA : isHA (opField hdr) = true) (w1 w2 : Word) (ws : List Word) :
    decode (hdr :: w1 :: w2 :: ws) = finish (decodeCmd hdr (argOf w1 w2)) ws := by simp [decode, hHA]

theorem cmdRow_of_finish {hdr : Word} {ws rest : List Word}
    (h : finish (decodeCmd hdr arg) ws = .command i rest) :
    CmdRow (opField hdr) (aField hdr) (bField hdr) arg i ∧ ws = rest := by
  obtain ⟨hcmd, hrest⟩ := finish_eq_command_iff.1 h
  exact ⟨cmdRow_of_decodeCmd hcmd, hrest⟩

/-- An accepted stream begins with the header and the argument of a row of the table. -/
theorem cmdRow_of_decode {ws rest : List Word} (h : decode ws = .command i rest) :
    ∃ hdr arg, CmdRow (opField hdr) (aField hdr) (bField hdr) arg i ∧
      ws = hdr :: operandWords (opField hdr) arg ++ rest := by
  unfold decode at h
  split at h
  · cases h
  next hdr ws =>
    split at h
    next hHA =>
      split at h
      · obtain ⟨hrow, rfl⟩ := cmdRow_of_finish h
        exact ⟨hdr, _, hrow, by simp [operandWords, hHA, argWords_argOf]⟩
      · cases h
    next hH =>
      obtain ⟨hrow, rfl⟩ := cmdRow_of_finish h
      exact ⟨hdr, _, hrow, by simp [operandWords, hH]⟩

/-- A row's header and argument at the head of a stream are read as the row's command. -/
theorem decode_of_cmdRow {hdr : Word}
    (h : CmdRow (opField hdr) (aField hdr) (bField hdr) arg i) (rest : List Word) :
    decode (hdr :: operandWords (opField hdr) arg ++ rest) = .command i rest := by
  cases hformat : isHA (opField hdr) with
  | false =>
    have hwords : hdr :: operandWords (opField hdr) arg ++ rest = hdr :: rest := by simp [operandWords, hformat]
    rw [hwords, decode_h hformat, decodeCmd_of_cmdRow (h.with_arg hformat 0), finish]
  | true =>
    have hwords : hdr :: operandWords (opField hdr) arg ++ rest =
        hdr :: arg.extractLsb' 0 32 :: arg.extractLsb' 32 32 :: rest := by simp [operandWords, hformat, argWords]
    rw [hwords, decode_ha hformat, argOf_argWords, decodeCmd_of_cmdRow h, finish]

theorem CmdRow.toNat_op (h : CmdRow op a b arg i) : (byteOf op).toNat = op := by
  cases h <;> rfl

theorem CmdRow.decode_encode (h : CmdRow op a b arg i) (rest : List Word) :
    decode (encode i ++ rest) = .command i rest := by
  have hop : opField (mkHdr (byteOf op) a b) = op := by rw [opField_mkHdr, h.toNat_op]
  have hread := decode_of_cmdRow (h.at_header hop (aField_mkHdr ..) (bField_mkHdr ..)) rest
  rwa [hop, ← h.encoding.2] at hread

theorem decode_hdrPut (v : Byte) (r : Reg) (rest : List Word) :
    decode (hdrPut v r ++ rest) = .command (putRow v r) rest := by
  rw [← (putRow_encoding v r).2]
  exact (CmdRow.putCell v r 0).decode_encode rest

end

/-- Settles O1: a well-formed command is a row of the command table, and the decoder reads every row back; a PUT of a
mapped cell is the row of its cell. -/
theorem commandsDecodeBack : Obligations.CommandsDecodeBack := by
  intro i rest hwf
  cases i with
  | now => exact (CmdRow.now 0).decode_encode rest
  | sched t c => exact (CmdRow.sched t c hwf).decode_encode rest
  | cancel t => exact (CmdRow.cancel t 0 hwf).decode_encode rest
  | resched t c => exact (CmdRow.resched t c hwf).decode_encode rest
  | advance => exact (CmdRow.advance 0).decode_encode rest
  | step => exact (CmdRow.step 0).decode_encode rest
  | setsrc p k => exact (CmdRow.setsrc p k 0).decode_encode rest
  | setctl p k => exact (CmdRow.setctl p k 0).decode_encode rest
  | addsink p k => exact (CmdRow.addsink p k 0 hwf).decode_encode rest
  | rmsink p k => exact (CmdRow.rmsink p k 0 hwf).decode_encode rest
  | updpin p => exact (CmdRow.updpin p 0).decode_encode rest
  | drive p l => exact (CmdRow.drive p l 0).decode_encode rest
  | pinrd p => exact (CmdRow.pinrd p 0).decode_encode rest
  | attach k r => exact (CmdRow.attach k r 0 hwf).decode_encode rest
  | detach k r => exact (CmdRow.detach k r 0 hwf).decode_encode rest
  | publish k sub v => exact (CmdRow.publish k sub v).decode_encode rest
  | put v a => exact (CmdRow.putUnmapped v a 0 (Option.isNone_iff_eq_none.1 hwf)).decode_encode rest
  | get a => exact (CmdRow.get a 0).decode_encode rest
  | getv a => exact (CmdRow.getv a 0).decode_encode rest
  | setv c v => exact (CmdRow.setv c v).decode_encode rest
  | getfreq => exact (CmdRow.getfreq 0).decode_encode rest
  | sleep => exact (CmdRow.sleep 0).decode_encode rest
  | wake => exact (CmdRow.wake 0).decode_encode rest
  | reset => exact (CmdRow.reset 0).decode_encode rest
  | _ v => exact decode_hdrPut v _ rest

/-- Settles O2: an accepted command is a row of the table, and the encoder writes the row's fields. -/
theorem acceptedWordsAreEncodings : Obligations.AcceptedWordsAreEncodings := by
  intro ws rest i h
  obtain ⟨hdr, arg, hrow, rfl⟩ := cmdRow_of_decode h
  obtain ⟨hwf, hencode⟩ := hrow.encoding
  exact ⟨hwf, by rw [hencode, mkHdr_fields]⟩

end Sys2Proof
end

section
/-!
Proof of the statement of 30_encoding.md about illegal words (R105): what the opcode of a row says of its fields, read
backwards.
-/

namespace Sys2Proof

/-! ### The values that an operand field can take -/

theorem toNat_byteOf_pin (p : PinIx) : (byteOf p).toNat < 32 := by
  simp only [byteOf, BitVec.toNat_ofNat]
  omega

theorem toNat_trigger_code {t : TrigId} (ht : t.isExt = true) :
    0x20 ≤ (byteOf t.code).toNat ∧ (byteOf t.code).toNat < 0x40 := by
  cases t with
  | ext j =>
    simp only [byteOf, TrigId.code, BitVec.toNat_ofNat]
    omega
  | _ => cases ht

theorem toNat_channel_code (k : ChanKind) : 0 < (byteOf k.code).toNat ∧ (byteOf k.code).toNat ≤ 0x0B := by
  cases k <;> decide

theorem toNat_receiver_code {r : RecvId} (hr : r.isHost = true) :
    0x0100 ≤ (halfOf r.code).toNat ∧ (halfOf r.code).toNat < 0x0120 := by
  cases r with
  | host j =>
    simp only [halfOf, RecvId.code, BitVec.toNat_ofNat]
    omega
  | _ => cases hr

theorem toNat_level_code (l : Level) : (halfOf l.code).toNat < 3 := by cases l <;> decide

theorem toNat_adcInput_code (c : AdcInput) : (byteOf c.code).toNat < 32 ∨ 0xFE ≤ (byteOf c.code).toNat := by
  cases c with
  | chan ch => exact .inl (toNat_byteOf_pin ch)
  | vrefHi => exact .inr (by decide)
  | vrefLo => exact .inr (by decide)

theorem toNat_source_code (k : Option SrcId) :
    (optCode (k.map SrcId.code)).toNat ∈ [0x10, 0x11, 0x12, 0x13, 0x14, 0x20, 0x21, 0x22, 0x23, 0x28, 0xFFFF] := by
  cases k with
  | none => decide
  | some k => cases k with
    | ccp1 j => revert j; decide
    | clc n => cases n <;> decide
    | ccp2A | nco => decide

theorem toNat_control_code (k : Option CtlId) :
    (optCode (k.map CtlId.code)).toNat ∈
      [0x00, 0x01, 0x10, 0x11, 0x12, 0x13, 0x14, 0x20, 0x21, 0x22, 0x23, 0x28, 0xFFFF] := by
  cases k with
  | none => decide
  | some k => cases k with
    | ccp1 j => revert j; decide
    | clc n => cases n <;> decide
    | alwaysOut | alwaysIn | ccp2A | nco => decide

theorem toNat_sink_code {k : SinkId} (hk : k.hostWired = true) :
    (halfOf k.code).toNat ∈ [0x00, 0x01, 0x02, 0x08, 0x09, 0x30] := by
  cases k with
  | ccpIn i => cases i <;> decide
  | t0cki | t1cki | t1osi | ncoclk => decide
  | t1g | clcIn | ccpShut | tRst => cases hk

/-! ### What a row's opcode says of its fields -/

section
variable {op : Nat} {a : Byte} {b : Half} {arg : Long} {i : Instr}

theorem CmdRow.op_mem (h : CmdRow op a b arg i) : op ∈
    [0x01, 0x02, 0x03, 0x04, 0x05, 0x06, 0x10, 0x11, 0x12, 0x13, 0x14, 0x15, 0x16, 0x18, 0x19, 0x1A, 0x20, 0x21,
      0x22, 0x28, 0x29, 0x30, 0x31, 0x3F] := by
  cases h <;> decide

theorem CmdRow.a_eq_zero (h : CmdRow op a b arg i)
    (hop : op ∈ [0x01, 0x05, 0x06, 0x21, 0x22, 0x29, 0x30, 0x31, 0x3F]) : a = 0 := by
  cases h with
  | now | advance | step | get | getv | getfreq | sleep | wake | reset => rfl
  | _ => exact absurd hop (by decide)

theorem CmdRow.b_eq_zero (h : CmdRow op a b arg i)
    (hop : op ∈ [0x01, 0x02, 0x03, 0x04, 0x05, 0x06, 0x14, 0x16, 0x28, 0x29, 0x30, 0x31, 0x3F]) : b = 0 := by
  cases h with
  | now | sched | cancel | resched | advance | step | updpin | pinrd | setv | getfreq | sleep | wake | reset => rfl
  | _ => exact absurd hop (by decide)

theorem CmdRow.pin_range (h : CmdRow op a b arg i) (hop : op ∈ [0x10, 0x11, 0x12, 0x13, 0x14, 0x15, 0x16]) :
    a.toNat < 32 := by
  cases h with
  | setsrc p | setctl p | addsink p | rmsink p | updpin p | drive p | pinrd p => exact toNat_byteOf_pin p
  | _ => exact absurd hop (by decide)

theorem CmdRow.level_range (h : CmdRow op a b arg i) (hop : op = 0x15) : b.toNat < 3 := by
  cases h with
  | drive p l => exact toNat_level_code l
  | _ => exact absurd hop (by decide)

theorem CmdRow.trigger_range (h : CmdRow op a b arg i) (hop : op ∈ [0x02, 0x03, 0x04]) :
    0x20 ≤ a.toNat ∧ a.toNat < 0x40 := by
  cases h with
  | sched _ _ ht | cancel _ _ ht | resched _ _ ht => exact toNat_trigger_code ht
  | _ => exact absurd hop (by decide)

theorem CmdRow.receiver_range (h : CmdRow op a b arg i) (hop : op ∈ [0x18, 0x19]) :
    0x0100 ≤ b.toNat ∧ b.toNat < 0x0120 := by
  cases h with
  | attach _ _ _ hr | detach _ _ _ hr => exact toNat_receiver_code hr
  | _ => exact absurd hop (by decide)

theorem CmdRow.source_mem (h : CmdRow op a b arg i) (hop : op = 0x10) :
    b.toNat ∈ [0x10, 0x11, 0x12, 0x13, 0x14, 0x20, 0x21, 0x22, 0x23, 0x28, 0xFFFF] := by
  cases h with
  | setsrc p k => exact toNat_source_code k
  | _ => exact absurd hop (by decide)

theorem CmdRow.control_mem (h : CmdRow op a b arg i) (hop : op = 0x11) :
    b.toNat ∈ [0x00, 0x01, 0x10, 0x11, 0x12, 0x13, 0x14, 0x20, 0x21, 0x22, 0x23, 0x28, 0xFFFF] := by
  cases h with
  | setctl p k => exact toNat_control_code k
  | _ => exact absurd hop (by decide)

theorem CmdRow.sink_mem (h : CmdRow op a b arg i) (hop : op ∈ [0x12, 0x13]) :
    b.toNat ∈ [0x00, 0x01, 0x02, 0x08, 0x09, 0x30] := by
  cases h with
  | addsink _ _ _ hk | rmsink _ _ _ hk => exact toNat_sink_code hk
  | _ => exact absurd hop (by decide)

theorem CmdRow.channel_range (h : CmdRow op a b arg i) (hop : op ∈ [0x18, 0x19, 0x1A]) :
    0 < a.toNat ∧ a.toNat ≤ 0x0B := by
  cases h with
  | attach k | detach k | publish k => exact toNat_channel_code k
  | _ => exact absurd hop (by decide)

theorem CmdRow.adcInput_range (h : CmdRow op a b arg i) (hop : op = 0x28) : a.toNat < 32 ∨ 0xFE ≤ a.toNat := by
  cases h with
  | setv c => exact toNat_adcInput_code c
  | _ => exact absurd hop (by decide)

end

/-! ### Illegal words -/

theorem finish_illegal {r : Except DecodeError Instr} (h : ∀ i, r ≠ .ok i) (rest : List Word) :
    ∃ e, finish r rest = .illegal e rest := by
  cases r with
  | error e => exact ⟨e, rfl⟩
  | ok i => exact absurd rfl (h i)

/-- A word of format H that begins no row of the table is illegal. -/
theorem illegal_of_h {w : Word} (hH : isHA (opField w) = false)
    (hno : ∀ arg i, ¬ CmdRow (opField w) (aField w) (bField w) arg i) (rest : List Word) :
    ∃ e, decode (w :: rest) = .illegal e rest := by
  rw [decode_h hH]
  exact finish_illegal (fun i hi => hno 0 i (cmdRow_of_decodeCmd hi)) rest

/-- A word of format HA that begins no row of the table is illegal, with its argument. -/
theorem illegal_of_ha {w : Word} (hHA : isHA (opField w) = true)
    (hno : ∀ arg i, ¬ CmdRow (opField w) (aField w) (bField w) arg i) (w1 w2 : Word) (rest : List Word) :
    ∃ e, decode (w :: w1 :: w2 :: rest) = .illegal e rest := by
  rw [decode_ha hHA]
  exact finish_illegal (fun i hi => hno _ i (cmdRow_of_decodeCmd hi)) rest

theorem isHA_eq_false_of_notMem {op : Nat} {ops : List Nat} (hop : op ∉ ops)
    (hops : [0x02, 0x04, 0x1A, 0x28] ⊆ ops) : isHA op = false := by
  refine Bool.eq_false_iff.2 fun hHA => hop (hops ?_)
  simpa [isHA, or_assoc] using hHA

theorem isHA_of_mem {op : Nat} {ops : List Nat} {format : Bool} (hop : op ∈ ops) (h : ∀ n ∈ ops, isHA n = format) :
    isHA op = format := h op hop

/-- Settles O3: each kind of illegal word contradicts what its opcode's rows say of the field. -/
theorem illegalWords : Obligations.IllegalWords := by
  intro w w1 w2 rest
  refine ⟨fun hop => ?unknown, fun hop ha => ?unusedA, fun hop hb => ?unusedB, fun hop hb => ?unusedBHA,
    fun hop ha => ?pin, fun hop hb => ?level, fun hop ha => ?triggerHA, fun hop ha => ?trigger,
    fun hop hb => ?receiver, fun hop hb => ?source, fun hop hb => ?control, fun hop hb => ?sink,
    fun hop ha => ?channel, fun hop ha => ?channelHA, fun hop hlo hhi => ?adcInput⟩
  case unknown => exact illegal_of_h (isHA_eq_false_of_notMem hop (by decide)) (fun _ _ h => hop h.op_mem) rest
  case unusedA => exact illegal_of_h (isHA_of_mem hop (by decide)) (fun _ _ h => ha (h.a_eq_zero hop)) rest
  case unusedB =>
    refine illegal_of_h (isHA_of_mem hop (by decide)) (fun _ _ h => ?_) rest
    exact hb (h.b_eq_zero (List.subset_def.1 (by decide) hop))
  case unusedBHA =>
    refine illegal_of_ha (isHA_of_mem hop (by decide)) (fun _ _ h => ?_) w1 w2 rest
    exact hb (h.b_eq_zero (List.subset_def.1 (by decide) hop))
  case pin => exact illegal_of_h (isHA_of_mem hop (by decide)) (fun _ _ h => absurd (h.pin_range hop) (by omega)) rest
  case level => exact illegal_of_h (hop ▸ rfl) (fun _ _ h => absurd (h.level_range hop) (by omega)) rest
  case triggerHA =>
    refine illegal_of_ha (isHA_of_mem hop (by decide)) (fun _ _ h => ?_) w1 w2 rest
    have := h.trigger_range (List.subset_def.1 (by decide) hop)
    omega
  case trigger =>
    refine illegal_of_h (hop ▸ rfl) (fun _ _ h => ?_) rest
    have := h.trigger_range (by simp [hop])
    omega
  case receiver =>
    refine illegal_of_h (isHA_of_mem hop (by decide)) (fun _ _ h => ?_) rest
    have := h.receiver_range hop
    omega
  case source => exact illegal_of_h (hop ▸ rfl) (fun _ _ h => hb (h.source_mem hop)) rest
  case control => exact illegal_of_h (hop ▸ rfl) (fun _ _ h => hb (h.control_mem hop)) rest
  case sink => exact illegal_of_h (isHA_of_mem hop (by decide)) (fun _ _ h => hb (h.sink_mem hop)) rest
  case channel =>
    refine illegal_of_h (isHA_of_mem hop (by decide)) (fun _ _ h => ?_) rest
    have := h.channel_range (List.subset_def.1 (by decide) hop)
    omega
  case channelHA =>
    refine illegal_of_ha (hop ▸ rfl) (fun _ _ h => ?_) w1 w2 rest
    have := h.channel_range (by simp [hop])
    omega
  case adcInput =>
    refine illegal_of_ha (hop ▸ rfl) (fun _ _ h => ?_) w1 w2 rest
    have := h.adcInput_range hop
    omega

end Sys2Proof
end

section
/-!
Proofs of the statements about a step of the command stream (30_encoding.md R100, R101, R105), about words written out
from the tables (R104, R109, R111 to R115), and about the plain stores (R103; 40_scheduler.md R160;
46_nco_angular_adc.md R420, R427).
-/

namespace Sys2Proof.Machine

open Sys2Proof

/-! ### One step of the stream -/

theorem step_of_command {s : State} {i : Instr} {rest : List Word} (h : decode s.cmds = .command i rest) :
    step s = exec i (s.consume rest) := by rw [step, h]

theorem step_of_illegal {s : State} {e : DecodeError} {rest : List Word} (h : decode s.cmds = .illegal e rest) :
    step s = .next (rejectCommand rest s) := by rw [step, h]

theorem step_of_incomplete {s : State} (h : decode s.cmds = .incomplete) : step s = .next s := by rw [step, h]

/-- Settles O4: a step in each of the decoder's three answers. -/
theorem stepRunsTheNextCommand : Obligations.StepRunsTheNextCommand := fun _ =>
  ⟨fun _ _ => step_of_command, fun _ _ => step_of_illegal, step_of_incomplete⟩

/-- Settles O5: the decoder evaluated on each of the streams. -/
theorem wordsOfTheTables : Obligations.WordsOfTheTables := by
  unfold Obligations.WordsOfTheTables
  decide

/-! ### Plain stores -/

theorem microvolts_eq (uv : Long) : microvolts uv = (uv.toInt : Rat) / 1000000 := by
  rw [microvolts, Rat.mkRat_eq_div]
  norm_num

theorem execSetv_present {ch : Fin 32} {s : State} (uv : Long) (hch : ch.val < s.cfg.nAdcCh) :
    execSetv (.chan ch) uv s = .next { s with vin := s.vin.set ch (microvolts uv) } := if_pos hch

/-- A control register that has no OUT bit hands its write rule the written byte under the mask (R160). -/
theorem regPut_masked {r : Reg} (hr : hasControlByte r = true) (hcell : ∀ b, cellByte r b = b) (v : Byte) (s : State) :
    regPut r v s = onWrite signal r (v &&& wmask r) s := by
  rw [regPut, ← cellByte_putByte hr v s, hcell]

/-- A control register that is writable in every bit hands its write rule the written byte (R160). -/
theorem regPut_unmasked {r : Reg} (hr : hasControlByte r = true) (hcell : ∀ b, cellByte r b = b)
    (hmask : wmask r = BitVec.allOnes 8) (v : Byte) (s : State) : regPut r v s = onWrite signal r v s := by
  rw [regPut_masked hr hcell, hmask, BitVec.and_allOnes]

/-- Settles O27: SETV by its cases; the four ADC registers are control registers whose write rule only stores; the write
rule of a read-only cell does nothing. -/
theorem plainStores : Obligations.PlainStores := by
  intro uv v s
  simp only [← microvolts_eq]
  refine ⟨fun ch hch => execSetv_present uv hch, rfl, rfl, ?resl, ?resh, ?acq, ?con1, rfl, rfl, rfl, rfl, rfl, rfl, rfl,
    rfl, rfl, rfl⟩
  case resl => exact congrArg Host.Outcome.next (regPut_unmasked (r := .adresl) rfl (fun _ => rfl) rfl v s)
  case resh => exact congrArg Host.Outcome.next (regPut_unmasked (r := .adresh) rfl (fun _ => rfl) rfl v s)
  case acq => exact congrArg Host.Outcome.next (regPut_unmasked (r := .adacq) rfl (fun _ => rfl) rfl v s)
  case con1 => exact congrArg Host.Outcome.next (regPut_masked (r := .adcon1) rfl (fun _ => rfl) v s)

end Sys2Proof.Machine
end

section
/-!
Proofs of the statements of 40_scheduler.md about ADVANCE and STEP: the firing loop where hosts' test triggers alone are
due (R134, R136, R138), and the clock's count (R137).
-/

namespace Sys2Proof.Machine

open Sys2Proof

/-! ### The firing loop where hosts' triggers alone are due -/

/-- Every due entry belongs to a host test trigger. -/
def HostsDue (s : State) : Prop := ∀ e ∈ s.queue, e.cycle ≤ s.now.toNat → e.trig.isExt = true

/-- The state with its due entries fired, in the queue's order, and gone from the queue. -/
def firedDue (s : State) : State := { s with
  queue := s.queue.filter (fun e => decide (s.now.toNat < e.cycle))
  out := s.out ++ (s.queue.filter (fun e => decide (e.cycle ≤ s.now.toNat))).map (fun e =>
    .fire e.trig s.now.toNat) }

/-- With nothing due there is nothing to fire. -/
theorem firedDue_of_none_due {s : State} (h : ∀ e ∈ s.queue, s.now.toNat < e.cycle) : firedDue s = s := by
  have hstays : s.queue.filter (fun e => decide (s.now.toNat < e.cycle)) = s.queue :=
    List.filter_eq_self.2 fun e he => decide_eq_true (h e he)
  have hdue : s.queue.filter (fun e => decide (e.cycle ≤ s.now.toNat)) = [] :=
    List.filter_eq_nil_iff.2 fun e he => by simpa using h e he
  rw [firedDue, hstays, hdue, List.map_nil, List.append_nil]

/-- One turn of the loop on a host's trigger: the entry is gone and its record made (R136, R138). -/
theorem fireEvent_ext {e : Event} (he : e.trig.isExt = true) (rest : List Event) {s : State} (hf : s.firing = none) :
    fireEvent e rest s = { s with queue := rest, out := s.out ++ [.fire e.trig s.now.toNat] } := by
  obtain ⟨c, n, t⟩ := e
  cases t with
  | ext j => simp [fireEvent, callback, emit, State.cycle, hf]
  | _ => exact absurd he (by simp [TrigId.isExt])

/-- Firing the first due entry and then the rest fires them all. -/
theorem firedDue_fireEvent {s : State} {e : Event} {rest : List Event} (hf : s.firing = none)
    (h : nextDue s = some (e, rest)) (he : e.trig.isExt = true) : firedDue (fireEvent e rest s) = firedDue s := by
  obtain ⟨hq, hdue⟩ := nextDue_some h
  have hnow : e.cycle ≤ s.now.toNat := hdue
  simp [fireEvent_ext he rest hf, firedDue, hq, hnow, Nat.not_lt.2 hnow]

/-- In a queue in cycle order, no entry is due where the first is not (R22, R136). -/
theorem none_due_of_nextDue {s : State} (hs : s.queue.Pairwise (fun a b => a.cycle ≤ b.cycle))
    (h : nextDue s = none) : ∀ e ∈ s.queue, s.now.toNat < e.cycle := by
  unfold nextDue at h
  split at h
  next hq => simp [hq]
  next x rest hq =>
    have hx : s.now.toNat < x.cycle := Nat.lt_of_not_le fun hdue => by simp [State.cycle, hdue] at h
    rw [hq, List.pairwise_cons] at hs
    intro e he
    rw [hq, List.mem_cons] at he
    rcases he with rfl | he
    · exact hx
    · exact hx.trans_le (hs.1 e he)

/-- The loop over a queue in cycle order ends with every due entry fired, within as many events as the queue holds. -/
theorem advanceLoop_hostsDue {n : Nat} {s : State} (hf : s.firing = none)
    (hs : s.queue.Pairwise (fun a b => a.cycle ≤ b.cycle)) (hd : HostsDue s) (hn : s.queue.length ≤ n) :
    advanceLoop n s = some (firedDue s) := by
  induction n generalizing s with
  | zero =>
    have hq : s.queue = [] := List.length_eq_zero_iff.1 (Nat.le_zero.1 hn)
    have hnone : ∀ e ∈ s.queue, s.now.toNat < e.cycle := by simp [hq]
    rw [firedDue_of_none_due hnone, advanceLoop_idle (nextDue_none hnone)]
  | succ n ih =>
    cases h : nextDue s with
    | none => rw [firedDue_of_none_due (none_due_of_nextDue hs h), advanceLoop_idle h]
    | some er =>
      obtain ⟨e, rest⟩ := er
      obtain ⟨hq, hdue⟩ := nextDue_some h
      have he : e.trig.isExt = true := hd e (by simp [hq]) hdue
      rw [hq] at hs hn
      have hturn := fireEvent_ext he rest hf
      have hd' : HostsDue (fireEvent e rest s) := by
        rw [hturn]
        exact fun x hx => hd x (by simp [hq, hx])
      rw [advanceLoop_fire h, ← firedDue_fireEvent hf h he]
      exact ih (by rw [hturn, hf]) (by rw [hturn]; exact hs.of_cons) hd' (by rw [hturn]; simpa using hn)

/-- A queue strictly in `(cycle, ins)` order is in cycle order (R22). -/
theorem queueOk_cycle_sorted {s : State} (h : s.queueOk) : s.queue.Pairwise (fun a b => a.cycle ≤ b.cycle) :=
  h.1.imp fun hab => by rw [before_iff] at hab; omega

/-- Settles O14, by `advanceLoop_hostsDue`: the queue that the invariant keeps is in cycle order. -/
theorem advanceFiresInOrder : Obligations.AdvanceFiresInOrder := by
  intro s ⟨hq, hf, _⟩ hd
  exact advance_next_iff.2 ⟨_, advanceLoop_hostsDue hf (queueOk_cycle_sorted hq) hd le_rfl⟩

/-! ### The clock -/

/-- STEP below the top of the counter is a count of the clock and then ADVANCE (R137). -/
theorem stepCycle_below {s : State} (hn : s.now ≠ BitVec.allOnes 64) :
    stepCycle s = advance { s with now := s.now + 1 } := if_neg hn

/-- Settles O15: ADVANCE by `advance_none`, STEP by its two cases. -/
theorem stepCountsAndAdvances : Obligations.StepCountsAndAdvances := by
  refine fun s => ⟨advance_none, stepCycle_top, stepCycle_below, fun hn hlater => ?_⟩
  have hnone : ∀ e ∈ s.queue, (s.now + 1).toNat < e.cycle := by rwa [now_succ hn]
  exact (stepCycle_below hn).trans (advance_none hnone)

end Sys2Proof.Machine
end

section
/-!
Proofs of the statements of 41_pins_bus.md about the pin and bus commands: what they change where nothing listens (R170,
R171, R174 to R176), what they can change whatever listens (R178, R179, R184), the host's wiring (R172, R173, R180, R181)
and PUBLISH (R182, R183).
-/

namespace Sys2Proof.Machine

open Sys2Proof

/-! ### Pin commands -/

/-- A pin's module written back is no change: UPDPIN is a pin command that stores nothing (R174). -/
theorem setPin_self (s : State) (p : PinIx) : s.setPin p s.pins[p] = s := by
  have h : s.pins.set p s.pins[p] = s.pins := Vector.set_getElem_self p.isLt
  rw [State.setPin, h]

/-- The observable level by its two conditions: an installed source shows where its control says OUT and it drives
(R175). -/
theorem pinObservable_eq (s : State) (m : Pin) :
    pinObservable s m =
      (match m.src, m.ctl with
       | some a, some k => if ctlOut s k = true ∧ srcLevel s a ≠ .Z then srcLevel s a else m.ext
       | _, _ => m.ext) := by
  obtain ⟨src, ctl, sinks, ext, lvl⟩ := m
  rcases src with _ | a
  · rfl
  · rcases ctl with _ | k
    · rfl
    · cases hout : ctlOut s k <;> by_cases hz : srcLevel s a = .Z <;> simp [pinObservable, pinOwnDrive, hout, hz]

/-- Settles O16, by `drive_no_sink` at the module that each command stores. -/
theorem pinCommandsWithoutListeners : Obligations.PinCommandsWithoutListeners := by
  intro p s hp hsinks hdepth shown after
  have hdrive (m : Pin) (hm : m.sinks = []) (hl : m.lvl = s.pins[p].lvl) :
      signal (.drive p) (s.setPin p m) = after m := by
    have hshown : pinObservable s m = shown m := pinObservable_eq s m
    have h := drive_no_sink p s m hm hdepth
    rw [hshown, hl] at h
    exact h
  refine ⟨fun src => ?_, fun ctl => ?_, fun l => ?_, ?_⟩
  · exact (onPin_present hp).trans (congrArg _ (hdrive _ hsinks rfl))
  · exact (onPin_present hp).trans (congrArg _ (hdrive _ hsinks rfl))
  · exact (onPin_present hp).trans (congrArg _ (hdrive _ hsinks rfl))
  · have h := hdrive s.pins[p] hsinks rfl
    rw [setPin_self] at h
    exact (onPin_present hp).trans (congrArg _ h)

/-- Settles O17: a pin command stores its field and hands the pin to the wire, which `sig_signal` bounds. -/
theorem pinCommandsPropagate : Obligations.PinCommandsPropagate := fun _ _ hp =>
  ⟨fun _ => ⟨_, onPin_present hp, sig_signal _ _⟩, fun _ => ⟨_, onPin_present hp, sig_signal _ _⟩,
    fun _ => ⟨_, onPin_present hp, sig_signal _ _⟩, ⟨_, onPin_present hp, sig_signal _ _⟩⟩

/-! ### The host's wiring -/

theorem holdOnce_true {α : Type} [DecidableEq α] (x : α) (l : List α) :
    holdOnce true x l = if x ∈ l then l else l ++ [x] := by simp [holdOnce]

theorem holdOnce_false {α : Type} [DecidableEq α] (x : α) (l : List α) :
    holdOnce false x l = l.filter (fun y => decide (y ≠ x)) := by
  refine List.filter_congr fun y _ => ?_
  by_cases h : y = x <;> simp [h]

/-- Settles O18: the guard of each command, then the list that `holdOnce` leaves. -/
theorem hostWiringCommands : Obligations.HostWiringCommands := by
  intro p k c r s
  refine ⟨fun hk hp => ⟨?_, ?_⟩, fun hk => ⟨?_, ?_⟩, fun hr => ⟨?_, ?_⟩, fun hr => ⟨?_, ?_⟩⟩
  · rw [← holdOnce_true]
    exact (if_pos hk).trans (onPin_present hp)
  · rw [← holdOnce_false]
    exact (if_pos hk).trans (onPin_present hp)
  · exact if_neg (Bool.eq_false_iff.1 hk)
  · exact if_neg (Bool.eq_false_iff.1 hk)
  · rw [← holdOnce_true]
    exact if_pos hr
  · rw [← holdOnce_false]
    exact if_pos hr
  · exact if_neg (Bool.eq_false_iff.1 hr)
  · exact if_neg (Bool.eq_false_iff.1 hr)

/-! ### The bus -/

/-- A `Publish` at the nesting limit delivers nothing and records the fault (R182). -/
theorem publish_at_limit {k : ChanKind} {b v : Nat} {s : State} (h : s.cfg.busDepthMax ≤ s.busDepth) :
    signal (.publish k b v) s = raiseFault .busDepth s := if_pos h

/-- Settles O21: the limit by `publish_at_limit`, hosts alone by `publish_hosts`, every other listener by `sig_signal`. -/
theorem publishFansOut : Obligations.PublishFansOut := fun _ _ _ _ =>
  ⟨fun h => congrArg _ (publish_at_limit h.ge), fun hd hr => congrArg _ (publish_hosts _ _ _ _ hd hr),
    ⟨_, rfl, sig_signal _ _⟩⟩

end Sys2Proof.Machine
end

section
/-!
Laws of a consumer's subscription (41_pins_bus.md R186) and of what stores and restarts a counter leaves, as used by the
statements about PUT T1GCON, TxCON, TxHLT, TxRST and CCPxAS.
-/

namespace Sys2Proof.Machine

open Sys2Proof

/-! ### Lists that hold one entry or not -/

theorem mem_holdOnce_same {α : Type} [BEq α] [LawfulBEq α] (want : Bool) (x : α) (l : List α) :
    x ∈ holdOnce want x l ↔ want = true := by
  cases want with
  | false => simp [holdOnce]
  | true => by_cases h : x ∈ l <;> simp [holdOnce, h]

theorem mem_holdOnce_other {α : Type} [BEq α] [LawfulBEq α] (want : Bool) {x y : α} (h : y ≠ x) (l : List α) :
    y ∈ holdOnce want x l ↔ y ∈ l := by
  cases want with
  | false => simp [holdOnce, h]
  | true => by_cases hx : x ∈ l <;> simp [holdOnce, hx, h]

/-! ### A subscription -/

/-- In `t` the sink `k` and the receiver `r` are held exactly where `want` says, and every other sink and receiver is held
where `s` holds it (R186). -/
structure Holds (k : SinkId) (r : RecvId) (want : Option SigDesc) (s t : State) : Prop where
  sink : ∀ p : PinIx, k ∈ t.pins[p].sinks ↔ want = some (.pin p)
  receiver : ∀ c, r ∈ t.subsOf c ↔ ∃ sub, want = some (.bus c sub)
  otherSinks : ∀ (p : PinIx) (j : SinkId), j ≠ k → (j ∈ t.pins[p].sinks ↔ j ∈ s.pins[p].sinks)
  otherReceivers : ∀ (c : ChanKind) (j : RecvId), j ≠ r → (j ∈ t.subsOf c ↔ j ∈ s.subsOf c)

theorem kindIx_inj {a b : ChanKind} : kindIx a = kindIx b ↔ a = b := by
  refine ⟨fun h => ?_, congrArg kindIx⟩
  revert h
  cases a <;> cases b <;> decide

/-- The pins with the sink of a consumer input held on the one that `want` names, and on no other. -/
def heldPins (k : SinkId) (want : Option SigDesc) (pins : Vector Pin 32) : Vector Pin 32 :=
  Vector.ofFn fun p => { pins[p] with sinks := holdOnce (want == some (.pin p)) k pins[p].sinks }

/-- `want` names the channel at place `j` of the subscription table. -/
def wantsIndex (want : Option SigDesc) (j : Fin 11) : Bool :=
  match want with
  | some (.bus c _) => kindIx c == j
  | _ => false

/-- The subscription table with the receiver of a consumer input attached to the channel that `want` names, and to no
other. -/
def heldSubs (r : RecvId) (want : Option SigDesc) (subs : Vector (List RecvId) 11) : Vector (List RecvId) 11 :=
  Vector.ofFn fun j => holdOnce (wantsIndex want j) r subs[j]

/-- A resubscription as an update of the wiring (R186). -/
theorem resubscribe_eq (k : SinkId) (r : RecvId) (want : Option SigDesc) (s : State) :
    resubscribe k r want s = { s with pins := heldPins k want s.pins, subs := heldSubs r want s.subs } := by
  rcases want with _ | ⟨p⟩ | ⟨c, sub⟩ | _ | _ <;> rfl

theorem wantsIndex_iff {want : Option SigDesc} {c : ChanKind} :
    wantsIndex want (kindIx c) = true ↔ ∃ sub, want = some (.bus c sub) := by
  rcases want with _ | ⟨p⟩ | ⟨d, sub⟩ | _ | _ <;> simp [wantsIndex, kindIx_inj]

/-- A subscription that `resubscribe` left is held as `want` says. -/
theorem holds_of_held {k : SinkId} {r : RecvId} {want : Option SigDesc} {s t : State}
    (hpins : t.pins = heldPins k want s.pins) (hsubs : t.subs = heldSubs r want s.subs) : Holds k r want s t := by
  have hsinks (p : PinIx) : t.pins[p].sinks = holdOnce (want == some (.pin p)) k s.pins[p].sinks := by
    simp [hpins, heldPins]
  have hrecvs (c : ChanKind) : t.subsOf c = holdOnce (wantsIndex want (kindIx c)) r (s.subsOf c) := by
    simp [State.subsOf, hsubs, heldSubs]
  refine ⟨fun p => ?_, fun c => ?_, fun p j hj => ?_, fun c j hj => ?_⟩
  · rw [hsinks, mem_holdOnce_same, beq_iff_eq]
  · rw [hrecvs, mem_holdOnce_same, wantsIndex_iff]
  · rw [hsinks, mem_holdOnce_other _ hj]
  · rw [hrecvs, mem_holdOnce_other _ hj]

/-- The faults after `raiseIfRefused` (R116). -/
def refusedFaults (want : Option SigDesc) (f : FaultSet) : FaultSet :=
  if want = some .refused then f.add .unmodelled else f

theorem raiseIfRefused_eq (want : Option SigDesc) (s : State) :
    raiseIfRefused want s = { s with faults := refusedFaults want s.faults } := by
  unfold raiseIfRefused refusedFaults
  split <;> rfl

/-- The block with a consumer input resubscribed to `want`, and UNMODELLED raised if `want` is a `Refused` entry (R116,
R186). -/
def State.subscribe (s : State) (k : SinkId) (r : RecvId) (want : Option SigDesc) : State := { s with
  pins := heldPins k want s.pins, subs := heldSubs r want s.subs, faults := refusedFaults want s.faults }

theorem raiseIfRefused_resubscribe (k : SinkId) (r : RecvId) (want : Option SigDesc) (s : State) :
    raiseIfRefused want (resubscribe k r want s) = s.subscribe k r want := by
  rw [resubscribe_eq, raiseIfRefused_eq]
  rfl

theorem lvl_subscribe (s : State) (k : SinkId) (r : RecvId) (want : Option SigDesc) (p : PinIx) :
    (s.subscribe k r want).pins[p].lvl = s.pins[p].lvl := by simp [State.subscribe, heldPins]

/-- A source's level is read off the pins' levels (R371). -/
theorem gainedLevel_of_lvl {s t : State} (h : ∀ p : PinIx, t.pins[p].lvl = s.pins[p].lvl) (d : SigDesc) :
    gainedLevel t d = gainedLevel s d := by
  cases d with
  | pin p => exact congrArg lowZ (h p)
  | _ => rfl

/-! ### Events of other triggers -/

theorem sameEventsBut_cancel (t : TrigId) (s : State) : sameEventsBut [t] s.queue (cancel t s).queue := by
  intro e he
  have hne : e.trig ≠ t := fun h => he (List.mem_singleton.2 h)
  simp [hne]

theorem sameEventsBut_reschedule (t : TrigId) (c : Nat) (s : State) :
    sameEventsBut [t] s.queue (reschedule t c s).queue := by
  intro e he
  have hne : e.trig ≠ t := fun h => he (List.mem_singleton.2 h)
  rw [mem_reschedule]
  constructor
  · rintro (rfl | ⟨h, -⟩)
    · exact absurd rfl hne
    · exact h
  · exact fun h => .inr ⟨h, hne⟩

/-! ### Timer1 counts on from a value -/

/-- Nothing changed but Timer1, and no event but its breakpoint's. -/
structure T1Only (s t : State) : Prop where
  frame : t = { s with t1 := t.t1, queue := t.queue, seq := t.seq }
  events : sameEventsBut [.t1Brk] s.queue t.queue

theorem t1Only_t1Recompute (s : State) : T1Only s (t1Recompute s) := by
  unfold t1Recompute
  dsimp only
  split
  · exact ⟨by simp [reschedule_with], sameEventsBut_reschedule _ _ _⟩
  · exact ⟨rfl, sameEventsBut_cancel _ _⟩

/-- The recomputation writes the breakpoint alone (R219). -/
theorem t1_t1Recompute (s : State) :
    ∃ b k, (t1Recompute s).t1 = { s.t1 with breakValue := b, breakKind := k } := by
  unfold t1Recompute
  dsimp only
  split
  · exact ⟨_, _, reschedule_t1 _ _ _⟩
  · exact ⟨_, _, rfl⟩

/-- A recomputed breakpoint leaves the count. -/
theorem t1Count_t1Recompute (s : State) : t1Count (t1Recompute s) = t1Count s := by
  have hnow : (t1Recompute s).now = s.now := by rw [(t1Only_t1Recompute s).frame]
  obtain ⟨b, k, h⟩ := t1_t1Recompute s
  simp only [t1Count, t1Abs, State.cycle, h, hnow]

/-- A count written as an anchor is read back from it, whatever the prescaler (R203). -/
theorem ediv_anchor (n v : Int) (d : Nat) (hd : 0 < d) : (n - (n - v * d)) / (d : Int) = v := by
  rw [sub_sub_cancel, Int.mul_ediv_cancel _ (by omega)]

/-- Timer1 counts on from `v`: nothing else about it changed but its breakpoint, and nothing outside it but the
breakpoint's event. -/
structure T1CountsFrom (v : Half) (s t : State) : Prop extends T1Only s t where
  standing : t.t1.standing = s.t1.standing
  count : t1Count t = v

theorem T1CountsFrom.of_recompute {v : Half} {s : State} {u : Timer1} (hstanding : u.standing = s.t1.standing)
    (hcount : t1Count { s with t1 := u } = v) : T1CountsFrom v s (t1Recompute { s with t1 := u }) := by
  obtain ⟨hframe, hevents⟩ := t1Only_t1Recompute { s with t1 := u }
  obtain ⟨b, k, h⟩ := t1_t1Recompute { s with t1 := u }
  exact ⟨⟨hframe, hevents⟩, h ▸ hstanding, (t1Count_t1Recompute _).trans hcount⟩

/-- `T1Update(V)` by its two cases, running from an anchor or held (R221). -/
theorem t1CountsFrom_t1Update (v : Half) (s : State) : T1CountsFrom v s (t1Update v s) := by
  have habs := ediv_anchor (tin (t1Ratio s.t1.con) s.cycle) v.toNat (t1Div s.t1.con) (Nat.two_pow_pos _)
  unfold t1Update
  split
  · exact .of_recompute rfl ((congrArg (BitVec.ofInt 16) habs).trans (by simp))
  · exact .of_recompute rfl rfl

/-! ### A Timer2-family timer counts on from a value -/

/-- Nothing changed but the timer, and no event but its breakpoint's. -/
structure T2Only (x : T2Id) (s t : State) : Prop where
  frame : t = { s with queue := t.queue, seq := t.seq }.setTm x (t.tm x)
  events : sameEventsBut [.tBrk x] s.queue t.queue

theorem setTm_setTm (s : State) (x : T2Id) (u w : Timer2) : (s.setTm x u).setTm x w = s.setTm x w := by
  cases x <;> rfl

theorem T2Only.of_setTm {x : T2Id} {s t : State} {u : Timer2} (h : T2Only x (s.setTm x u) t) : T2Only x s t := by
  obtain ⟨hframe, hevents⟩ := h
  exact ⟨hframe.trans (by cases x <;> rfl), by simpa using hevents⟩

theorem t2Only_reschedule (x : T2Id) (c : Nat) (s : State) : T2Only x s (reschedule (.tBrk x) c s) :=
  ⟨by rw [reschedule_with]; cases x <;> rfl, sameEventsBut_reschedule _ _ _⟩

theorem t2Only_cancel (x : T2Id) (s : State) : T2Only x s (cancel (.tBrk x) s) :=
  ⟨by cases x <;> rfl, sameEventsBut_cancel _ _⟩

theorem t2Only_t2Place (due : Bool) (x : T2Id) (s : State) : T2Only x s (t2Place due x s) := by
  unfold t2Place
  dsimp only
  split
  · exact (t2Only_reschedule _ _ _).of_setTm
  · exact (t2Only_cancel _ _).of_setTm

/-- Placing the breakpoint writes the breakpoint alone (R239). -/
theorem tm_t2Place (due : Bool) (x : T2Id) (s : State) :
    ∃ b m, (t2Place due x s).tm x = { s.tm x with breakValue := b, breakMask := m } := by
  unfold t2Place
  dsimp only
  split
  · exact ⟨_, _, (reschedule_tm _ _ _ _).trans (setTm_tm_same _ _ _)⟩
  · exact ⟨_, _, (cancel_tm _ _ _).trans (setTm_tm_same _ _ _)⟩

theorem t2Count_t2Recompute (x : T2Id) (s : State) : t2Count (t2Recompute x s) x = t2Count s x := by
  have hnow : (t2Recompute x s).now = s.now := by rw [t2Recompute, (t2Only_t2Place false x s).frame, setTm_now]
  obtain ⟨b, m, h⟩ : ∃ b m, (t2Recompute x s).tm x = { s.tm x with breakValue := b, breakMask := m } :=
    tm_t2Place false x s
  simp only [t2Count, t2Abs, State.cycle, h, hnow]

/-- The timer counts on from `v`: nothing else about it changed but its breakpoint and the ratio that it counts in, and
nothing outside it but the breakpoint's event. -/
structure T2CountsFrom (x : T2Id) (v : Byte) (s t : State) : Prop extends T2Only x s t where
  standing : (t.tm x).standing = (s.tm x).standing
  count : t2Count t x = v

theorem T2CountsFrom.of_recompute {x : T2Id} {v : Byte} {s : State} {u : Timer2}
    (hstanding : u.standing = (s.tm x).standing) (hcount : t2Count (s.setTm x u) x = v) :
    T2CountsFrom x v s (t2Recompute x (s.setTm x u)) := by
  obtain ⟨b, m, h⟩ := tm_t2Place false x (s.setTm x u)
  rw [setTm_tm_same] at h
  exact ⟨(t2Only_t2Place _ _ _).of_setTm, h ▸ hstanding, (t2Count_t2Recompute _ _).trans hcount⟩

/-- `T2Update(x, V)` by its two cases, running from an anchor or held (R233). -/
theorem t2CountsFrom_t2Update (x : T2Id) (v : Byte) (s : State) : T2CountsFrom x v s (t2Update x v s) := by
  have habs := ediv_anchor (tin (t2RatioNow s x) s.cycle) v.toNat (t2Div (s.tm x).con) (Nat.two_pow_pos _)
  unfold t2Update
  dsimp only
  split
  · refine .of_recompute rfl ?_
    simp only [t2Count, t2Abs, State.cycle, setTm_tm_same, setTm_now, if_pos]
    exact (congrArg (BitVec.ofInt 8) habs).trans (by simp)
  · refine .of_recompute rfl ?_
    simp [t2Count]

end Sys2Proof.Machine
end

section
/-!
Proof of the statement of 41_pins_bus.md and 42_timers.md about PUT T1GCON: the gate source that Timer1 then holds, and the
count that it keeps (R186, R224).
-/

namespace Sys2Proof.Machine

open Sys2Proof

/-- A gained gate source gives Timer1 its level and clears the toggle state, and nothing else (R224). -/
theorem t1GainGate_eq (old want : Option SigDesc) (s : State) :
    ∃ tff l, t1GainGate old want s = { s with t1 := { s.t1 with gateTff := tff, gateLvl := l } } := by
  unfold t1GainGate
  split
  · exact ⟨_, _, rfl⟩
  · split
    · exact ⟨_, _, rfl⟩
    · exact ⟨_, _, rfl⟩

/-- Timer1's gate source at the byte that PUT T1GCON stores (R37, R224). -/
theorem t1GateWant_masked (cfg : Cfg) (v : Byte) :
    t1GateWant cfg (v &&& 0xC3) =
      if bit v 7 = true then some (cfg.t1GateTable.getD (v.toNat % 4) .low) else none := by
  have hge : t1Ge (v &&& 0xC3) = bit v 7 := by simp [t1Ge, bit]
  have hgss : field (v &&& 0xC3) 0 2 = v.toNat % 4 := by
    revert v
    decide +kernel
  rw [t1GateWant, hge, hgss]

/-- PUT T1GCON as what it stores before `T1Update`: the byte, the gate it gains and the subscription. -/
theorem writeT1gcon_eq (new : Byte) (s : State) :
    ∃ tff l, writeT1gcon new s = t1Update (t1Count s) { s.subscribe .t1g .t1Gate (t1GateWant s.cfg new) with
      t1 := { s.t1 with gcon := new, gateTff := tff, gateLvl := l } } := by
  unfold writeT1gcon
  dsimp only
  rw [resubscribe_eq]
  obtain ⟨tff, l, h⟩ := t1GainGate_eq (t1GateWant s.cfg s.t1.gcon) (t1GateWant s.cfg new) { s with
    t1 := { s.t1 with gcon := new }
    pins := heldPins .t1g (t1GateWant s.cfg new) s.pins
    subs := heldSubs .t1Gate (t1GateWant s.cfg new) s.subs }
  refine ⟨tff, l, ?_⟩
  rw [h, raiseIfRefused_eq]
  rfl

/-- What PUT T1GCON of the byte `new` does beside the gate's level and state: the byte is stored, the count kept, the
subscription recomputed; the rest of the block stands but for Timer1's breakpoint. -/
structure Regated (new : Byte) (s t : State) : Prop where
  frame : t = { s.subscribe .t1g .t1Gate (t1GateWant s.cfg new) with t1 := t.t1, queue := t.queue, seq := t.seq }
  gcon : t.t1.gcon = new
  con : t.t1.con = s.t1.con
  count : t1Count t = t1Count s
  events : sameEventsBut [.t1Brk] s.queue t.queue

theorem regated_writeT1gcon (new : Byte) (s : State) : Regated new s (writeT1gcon new s) := by
  obtain ⟨tff, l, hwrite⟩ := writeT1gcon_eq new s
  have ⟨⟨hframe, hevents⟩, hstanding, hcount⟩ := t1CountsFrom_t1Update (t1Count s)
    { s.subscribe .t1g .t1Gate (t1GateWant s.cfg new) with
      t1 := { s.t1 with gcon := new, gateTff := tff, gateLvl := l } }
  rw [← hwrite] at hframe hstanding hcount hevents
  exact ⟨hframe, (congrArg Timer1.gcon hstanding :), (congrArg Timer1.con hstanding :), hcount, hevents⟩

/-- Settles O36: the subscription of `resubscribe`, and around it only Timer1 and its breakpoint, by `T1Update`. -/
theorem putT1gconSubscribes : Obligations.PutT1gconSubscribes := by
  intro v s
  simp only [← t1GateWant_masked]
  have hput : exec (.putT1gcon v) s = .next (writeT1gcon (v &&& 0xC3) s) :=
    congrArg Host.Outcome.next (regPut_masked (r := .t1gcon) rfl (fun _ => rfl) v s)
  obtain ⟨hframe, hgcon, hcon, hcount, hevents⟩ := regated_writeT1gcon (v &&& 0xC3) s
  obtain ⟨hsink, hreceiver, hsinks, hreceivers⟩ :
      Holds .t1g .t1Gate (t1GateWant s.cfg (v &&& 0xC3)) s (writeT1gcon (v &&& 0xC3) s) :=
    holds_of_held (congrArg State.pins hframe :) (congrArg State.subs hframe :)
  refine ⟨_, hput, hgcon, hcon, congrArg lowByte hcount, congrArg highByte hcount, hsink, hreceiver, hsinks, hreceivers,
    (congrArg State.faults hframe :), (congrArg State.out hframe :), (congrArg State.now hframe :), fun y => ?_,
    fun j => ?_, (congrArg State.t0 hframe :), fun e he => hevents e (by simpa using he)⟩
  · rw [hframe]
    cases y <;> rfl
  · rw [hframe]
    cases j <;> rfl

end Sys2Proof.Machine
end

section
/-!
Proofs of the statements of 41_pins_bus.md and 42_timers.md about PUT TxCON, TxHLT and TxRST: the reset source that a
Timer2-family timer then holds, and what it keeps (R186, R236, R237, R240).
-/

namespace Sys2Proof.Machine

open Sys2Proof

/-! ### The reset source selected anew -/

theorem setTm_self (s : State) (x : T2Id) : s.setTm x (s.tm x) = s := by cases x <;> rfl

/-- The reset signal's level after a selection: a source that is gained gives its own (R237). -/
def ersAfter (s : State) (old want : Option SigDesc) (ers : Level) : Level :=
  if want = old then ers else (want.map (gainedLevel s)).getD ers

theorem subscribe_setTm (s : State) (x : T2Id) (u : Timer2) (k : SinkId) (r : RecvId) (want : Option SigDesc) :
    (s.setTm x u).subscribe k r want = (s.subscribe k r want).setTm x u := by cases x <;> rfl

/-- A resubscription after the store of `u`, as an update of the wiring, the faults and the signal's level. -/
theorem t2Resubscribe_setTm (x : T2Id) (old : Option SigDesc) (s : State) (u : Timer2) :
    t2Resubscribe x old (s.setTm x u) = (s.subscribe (.tRst x) (.tRst x) (t2RstWant s.cfg u)).setTm x
      { u with ers := ersAfter s old (t2RstWant s.cfg u) u.ers } := by
  unfold t2Resubscribe
  dsimp only
  rw [setTm_tm_same, setTm_cfg, raiseIfRefused_resubscribe, subscribe_setTm]
  generalize t2RstWant s.cfg u = want
  by_cases h : want = old
  · rw [if_pos h, ersAfter, if_pos h]
  · rw [if_neg h, ersAfter, if_neg h]
    cases want with
    | none => rfl
    | some d =>
      have hgained : gainedLevel ((s.subscribe (.tRst x) (.tRst x) (some d)).setTm x u) d = gainedLevel s d := by
        refine gainedLevel_of_lvl (fun p => ?_) d
        rw [setTm_pins, lvl_subscribe]
      dsimp only
      rw [hgained, setTm_setTm, setTm_tm_same]
      rfl

/-- Only a level start is armed by the level of the signal (R240). -/
theorem t2ArmLevel_setTm (x : T2Id) (s : State) (u : Timer2) :
    ∃ a, t2ArmLevel x (s.setTm x u) = s.setTm x { u with armed := a } ∧
      (hltLevelStart (t2Policy s.cfg u.hlt) = false → a = u.armed) := by
  unfold t2ArmLevel
  dsimp only
  rw [setTm_tm_same, setTm_cfg, setTm_setTm]
  split
  · rename_i h
    exact ⟨_, rfl, fun hno => by simp [hno] at h⟩
  · exact ⟨u.armed, rfl, fun _ => rfl⟩

/-- Without a level reset the count goes on as it stands (R240). -/
theorem t2ResetCount_of_no_levelReset {x : T2Id} {v : Byte} {s : State}
    (hL : policyReset (t2Policy s.cfg (s.tm x).hlt) ≠ .levelL)
    (hH : policyReset (t2Policy s.cfg (s.tm x).hlt) ≠ .levelH) : t2ResetCount x v s = v := by
  have h (m : HltPolicy) (hL : policyReset m ≠ .levelL) (hH : policyReset m ≠ .levelH) (l : Level) :
      hltLevelReset m l = false := by
    unfold hltLevelReset
    split
    · exact absurd ‹_› hH
    · exact absurd ‹_› hL
    · rfl
  simp [t2ResetCount, h _ hL hH]

theorem hltLevelStart_eq_false {m : HltPolicy} (hL : policyStart m ≠ .levelL) (hH : policyStart m ≠ .levelH) :
    hltLevelStart m = false := by simp [hltLevelStart, hL, hH]

/-- What follows the store of `u` in timer `x`, whose reset source was `old` and whose count was `v`: the subscription
is recomputed, the signal's level is taken if the source is gained, a level start is armed, and the count goes on unless a
level reset holds it; the rest of the block stands but for the timer's breakpoint. -/
structure Reselected (x : T2Id) (old : Option SigDesc) (v : Byte) (u : Timer2) (s t : State) : Prop where
  frame : t = { s.subscribe (.tRst x) (.tRst x) (t2RstWant s.cfg u) with queue := t.queue, seq := t.seq }.setTm x (t.tm x)
  standing : (t.tm x).standing =
    { u.standing with ers := ersAfter s old (t2RstWant s.cfg u) u.ers, armed := (t.tm x).armed }
  armed : policyStart (t2Policy s.cfg u.hlt) ≠ .levelL → policyStart (t2Policy s.cfg u.hlt) ≠ .levelH →
    (t.tm x).armed = u.armed
  count : policyReset (t2Policy s.cfg u.hlt) ≠ .levelL → policyReset (t2Policy s.cfg u.hlt) ≠ .levelH → t2Count t x = v
  events : sameEventsBut [.tBrk x] s.queue t.queue

/-- `T2Update` after the selection, from a count `c` and with `tx_armed` at `a`. -/
theorem reselected_of_countsFrom {x : T2Id} {old : Option SigDesc} {v c : Byte} {a : Bool} {u : Timer2} {s t : State}
    (h : T2CountsFrom x c ((s.subscribe (.tRst x) (.tRst x) (t2RstWant s.cfg u)).setTm x
      { u with ers := ersAfter s old (t2RstWant s.cfg u) u.ers, armed := a }) t)
    (ha : hltLevelStart (t2Policy s.cfg u.hlt) = false → a = u.armed)
    (hc : policyReset (t2Policy s.cfg u.hlt) ≠ .levelL → policyReset (t2Policy s.cfg u.hlt) ≠ .levelH → c = v) :
    Reselected x old v u s t := by
  obtain ⟨hother, hstanding, hcount⟩ := h
  obtain ⟨hframe, hevents⟩ := hother.of_setTm
  rw [setTm_tm_same] at hstanding
  have harmed : (t.tm x).armed = a := (congrArg Timer2.armed hstanding :)
  exact ⟨hframe, harmed ▸ hstanding, fun hL hH => harmed.trans (ha (hltLevelStart_eq_false hL hH)),
    fun hL hH => hcount.trans (hc hL hH), hevents⟩

/-- With the signal's source and MODE standing, the timer is not armed anew. -/
theorem reselected_update (x : T2Id) (old : Option SigDesc) (v : Byte) (u : Timer2) (s : State) :
    Reselected x old v u s (t2Update x v (t2Resubscribe x old (s.setTm x u))) := by
  rw [t2Resubscribe_setTm]
  exact reselected_of_countsFrom (t2CountsFrom_t2Update _ _ _) (fun _ => rfl) fun _ _ => rfl

/-- After a change of the source, MODE or ON. -/
theorem reselected_armed_update (x : T2Id) (old : Option SigDesc) (v : Byte) (u : Timer2) (s : State) :
    Reselected x old v u s (t2Update x (t2ResetCount x v (t2ArmLevel x (t2Resubscribe x old (s.setTm x u))))
      (t2ArmLevel x (t2Resubscribe x old (s.setTm x u)))) := by
  rw [t2Resubscribe_setTm]
  obtain ⟨a, harm, ha⟩ := t2ArmLevel_setTm x (s.subscribe (.tRst x) (.tRst x) (t2RstWant s.cfg u))
    { u with ers := ersAfter s old (t2RstWant s.cfg u) u.ers }
  rw [harm]
  refine reselected_of_countsFrom (t2CountsFrom_t2Update _ _ _) ha fun hL hH => ?_
  apply t2ResetCount_of_no_levelReset
  · rw [setTm_tm_same, setTm_cfg]
    exact hL
  · rw [setTm_tm_same, setTm_cfg]
    exact hH

section
variable {x : T2Id} {old : Option SigDesc} {v : Byte} {u : Timer2} {s t : State}

theorem Reselected.holds (h : Reselected x old v u s t) : Holds (.tRst x) (.tRst x) (t2RstWant s.cfg u) s t := by
  refine holds_of_held ?_ ?_
  · rw [h.frame, setTm_pins]
    rfl
  · rw [h.frame, setTm_subs]
    rfl

theorem Reselected.faults (h : Reselected x old v u s t) : t.faults = refusedFaults (t2RstWant s.cfg u) s.faults := by
  rw [h.frame, setTm_faults]
  rfl

/-- A selection leaves the log, the clock, the CCP units, Timer1 and the other timers. -/
theorem Reselected.others (h : Reselected x old v u s t) :
    t.out = s.out ∧ t.now = s.now ∧ (∀ j, t.ccp j = s.ccp j) ∧ t.t1 = s.t1 ∧ ∀ y, y ≠ x → t.tm y = s.tm y := by
  refine ⟨?_, ?_, fun j => ?_, ?_, fun y hy => ?_⟩ <;> rw [h.frame]
  · rw [setTm_out]
    rfl
  · rw [setTm_now]
    rfl
  · rw [setTm_ccp]
    cases j <;> rfl
  · rw [setTm_t1]
    rfl
  · rw [setTm_tm_other _ _ _ _ hy]
    cases y <;> rfl

end

/-! ### PUT TxHLT and TxRST -/

theorem reselected_t2AfterSelect (x : T2Id) (t : Timer2) (v : Byte) (u : Timer2) (s : State) :
    Reselected x (t2RstWant s.cfg t) v u s (t2AfterSelect x t v (s.setTm x u)) := by
  unfold t2AfterSelect
  dsimp only
  rw [setTm_cfg]
  split
  · exact reselected_update _ _ _ _ _
  · exact reselected_armed_update _ _ _ _ _

theorem exec_putThlt (x : T2Id) (v : Byte) (s : State) : exec (putRow v (.thlt x)) s = .next (writeThlt x v s) :=
  (exec_putRow _ v s).trans (congrArg _ (regPut_unmasked (r := .thlt x) rfl (fun _ => rfl) rfl v s))

theorem exec_putTrst (x : T2Id) (v : Byte) (s : State) :
    exec (putRow v (.trst x)) s = .next (writeTrst x (v &&& 0x1F) s) :=
  (exec_putRow _ v s).trans (congrArg _ (regPut_masked (r := .trst x) rfl (fun _ => rfl) v s))

/-- Settles O40: both write rules store their byte and select the source anew, by `reselected_t2AfterSelect`. -/
theorem resetSelectionSubscribes : Obligations.ResetSelectionSubscribes := by
  intro x v s ok
  have key {u u' : Timer2} {t : State} (h : Reselected x (t2RstWant s.cfg (s.tm x)) (t2Count s x) u s t)
      (hwant : t2RstWant s.cfg u' = t2RstWant s.cfg u) (hhlt : u'.hlt = u.hlt) : ok u' t := by
    obtain ⟨hsink, hreceiver, hsinks, hreceivers⟩ := h.holds
    obtain ⟨hout, hnow, hccp, ht1, htm⟩ := h.others
    simp only [ok, hwant, hhlt]
    exact ⟨hsink, hreceiver, hsinks, hreceivers, h.faults, h.count, hout, hnow, hccp, ht1, htm,
      fun e he => h.events e (by simpa using he)⟩
  refine ⟨⟨_, exec_putThlt x v s, ?_⟩, ⟨_, exec_putTrst x v s, ?_⟩⟩
  · have h := reselected_t2AfterSelect x (s.tm x) (t2Count s x) { s.tm x with
      hlt := v, armed := t2ArmedAfterMode (t2Policy s.cfg v) (s.tm x).hlt v (s.tm x).con (s.tm x).armed } s
    exact ⟨(congrArg Timer2.hlt h.standing :), key h rfl rfl⟩
  · have h := reselected_t2AfterSelect x (s.tm x) (t2Count s x) { s.tm x with rst := v &&& 0x1F } s
    exact ⟨(congrArg Timer2.rst h.standing :), key h rfl rfl⟩

/-! ### PUT TxCON -/

theorem exec_putTcon (x : T2Id) (v : Byte) (s : State) : exec (putRow v (.tcon x)) s = .next (writeTcon x v s) :=
  (exec_putRow _ v s).trans (congrArg _ (regPut_unmasked (r := .tcon x) rfl (fun _ => rfl) rfl v s))

/-- The timer as PUT TxCON stores it (R236). -/
def tconStored (s : State) (x : T2Id) (v : Byte) : Timer2 := { s.tm x with
  con := v, post := t2PostAfter (s.tm x).con v (s.tm x).post
  armed := t2ArmedAfter (t2Policy s.cfg (s.tm x).hlt) (s.tm x).con v (s.tm x).armed }

theorem writeTcon_same (x : T2Id) (s : State) : writeTcon x (s.tm x).con s = s := if_pos rfl

/-- With ON standing the byte is stored and the count goes on. -/
theorem writeTcon_on_stands {x : T2Id} {v : Byte} {s : State} (hv : v ≠ (s.tm x).con)
    (hon : t2On v = t2On (s.tm x).con) :
    T2CountsFrom x (t2Count s x) (s.setTm x (tconStored s x v)) (writeTcon x v s) := by
  have hwrite : writeTcon x v s = t2Update x (t2Count s x) (s.setTm x (tconStored s x v)) :=
    (if_neg hv).trans (if_pos hon)
  rw [hwrite]
  exact t2CountsFrom_t2Update _ _ _

/-- A change of ON selects the reset source anew. -/
theorem writeTcon_on_changes {x : T2Id} {v : Byte} {s : State} (hv : v ≠ (s.tm x).con)
    (hon : t2On v ≠ t2On (s.tm x).con) :
    Reselected x (t2RstWant s.cfg (s.tm x)) (t2Count s x) (tconStored s x v) s (writeTcon x v s) := by
  have h := reselected_armed_update x (t2RstWant s.cfg (s.tm x)) (t2Count s x) (tconStored s x v) s
  rwa [show writeTcon x v s = _ from (if_neg hv).trans (if_neg hon)]

/-- The postscaler's reload, as the divisor `OUTPS + 1` (R200, R236). -/
theorem t2PostAfter_eq (old new : Byte) (post : Prescaler) : t2PostAfter old new post =
    if new.toNat % 16 = old.toNat % 16 then post else ⟨new.toNat % 16, new.toNat % 16 + 1⟩ := by
  simp [t2PostAfter, t2Outps, field, preLoad]

/-- A source is gained, or the timer holds none, where it held none before or holds none after. -/
theorem ersAfter_of_none {s : State} {old want : Option SigDesc} (ers : Level) (h : old = none ∨ want = none) :
    ersAfter s old want ers = (want.map (gainedLevel s)).getD ers := by
  unfold ersAfter
  split
  next heq =>
    have hwant : want = none := by
      rcases h with hold | hwant
      · exact heq.trans hold
      · exact hwant
    rw [hwant]
    rfl
  next => rfl

/-- Without ON the timer holds no reset source (R237). -/
theorem t2RstWant_off (cfg : Cfg) {u : Timer2} (h : t2On u.con = false) : t2RstWant cfg u = none := by
  simp [t2RstWant, h]

theorem wants_none_of_on_changes {s : State} {x : T2Id} {v : Byte} (hon : t2On v ≠ t2On (s.tm x).con) :
    t2RstWant s.cfg (s.tm x) = none ∨ t2RstWant s.cfg (tconStored s x v) = none := by
  cases hv : t2On v with
  | false => exact .inr (t2RstWant_off _ hv)
  | true => exact .inl (t2RstWant_off _ (Bool.eq_false_iff.2 fun h => hon (hv.trans h.symm)))

/-- `tx_armed` after a write of TxCON, in one expression (R236). -/
theorem t2ArmedAfter_eq (m : HltPolicy) (old new : Byte) (armed : Bool) : t2ArmedAfter m old new armed =
    (bit new 7 && (armed || (!bit old 7 && decide (policyStart m = .software)))) := by
  rw [t2ArmedAfter, t2On, t2On]
  cases bit new 7 with
  | false => rfl
  | true => by_cases hsoft : policyStart m = .software <;> cases bit old 7 <;> simp [hsoft]

/-- What every PUT TxCON does in the timer, and that outside it at most the subscription, the faults and the
breakpoint change. -/
structure TconWritten (x : T2Id) (v : Byte) (s t : State) : Prop where
  frame : t = { s with
    queue := t.queue, seq := t.seq, pins := t.pins, subs := t.subs, faults := t.faults }.setTm x (t.tm x)
  standing : (t.tm x).standing = { (s.tm x).standing with
    con := v, post := t2PostAfter (s.tm x).con v (s.tm x).post, ers := (t.tm x).ers, armed := (t.tm x).armed }
  armed : policyStart (t2Policy s.cfg (s.tm x).hlt) ≠ .levelL → policyStart (t2Policy s.cfg (s.tm x).hlt) ≠ .levelH →
    v ≠ (s.tm x).con → (t.tm x).armed = (tconStored s x v).armed
  count : policyReset (t2Policy s.cfg (s.tm x).hlt) ≠ .levelL → policyReset (t2Policy s.cfg (s.tm x).hlt) ≠ .levelH →
    t2Count t x = t2Count s x
  events : sameEventsBut [.tBrk x] s.queue t.queue

/-- A state that is `b` but for the timer, where `b` is `s` but for the queue, the subscription and the faults. -/
theorem frame_of_base {x : T2Id} {b s t : State} (h : t = b.setTm x (t.tm x))
    (hb : b = { s with queue := b.queue, seq := b.seq, pins := b.pins, subs := b.subs, faults := b.faults }) :
    t = { s with
      queue := t.queue, seq := t.seq, pins := t.pins, subs := t.subs, faults := t.faults }.setTm x (t.tm x) := by
  have hqueue : t.queue = b.queue := by rw [h, setTm_queue]
  have hseq : t.seq = b.seq := by rw [h, setTm_seq]
  have hpins : t.pins = b.pins := by rw [h, setTm_pins]
  have hsubs : t.subs = b.subs := by rw [h, setTm_subs]
  have hfaults : t.faults = b.faults := by rw [h, setTm_faults]
  rw [hqueue, hseq, hpins, hsubs, hfaults, ← hb]
  exact h

theorem tconWritten_same (x : T2Id) (s : State) : TconWritten x (s.tm x).con s s := by
  have hpost : t2PostAfter (s.tm x).con (s.tm x).con (s.tm x).post = (s.tm x).post := if_neg fun h => h rfl
  refine ⟨(setTm_self s x).symm, ?_, fun _ _ h => absurd rfl h, fun _ _ => rfl, fun _ _ => .rfl⟩
  rw [hpost]
  rfl

theorem T2CountsFrom.tconWritten {x : T2Id} {v : Byte} {s t : State}
    (h : T2CountsFrom x (t2Count s x) (s.setTm x (tconStored s x v)) t) : TconWritten x v s t := by
  obtain ⟨hother, hstanding, hcount⟩ := h
  obtain ⟨hframe, hevents⟩ := hother.of_setTm
  rw [setTm_tm_same] at hstanding
  have harmed : (t.tm x).armed = (tconStored s x v).armed := (congrArg Timer2.armed hstanding :)
  have hers : (t.tm x).ers = (s.tm x).ers := (congrArg Timer2.ers hstanding :)
  refine ⟨frame_of_base hframe rfl, ?_, fun _ _ _ => harmed, fun _ _ => hcount, hevents⟩
  rw [harmed, hers]
  exact hstanding

theorem Reselected.tconWritten {x : T2Id} {old : Option SigDesc} {v : Byte} {s t : State}
    (h : Reselected x old (t2Count s x) (tconStored s x v) s t) : TconWritten x v s t := by
  obtain ⟨hframe, hstanding, harmed, hcount, hevents⟩ := h
  refine ⟨frame_of_base hframe rfl, ?_, fun hL hH _ => harmed hL hH, hcount, hevents⟩
  have hers : (t.tm x).ers = ersAfter s old (t2RstWant s.cfg (tconStored s x v)) (s.tm x).ers :=
    (congrArg Timer2.ers hstanding :)
  rw [hers]
  exact hstanding

theorem tconWritten_writeTcon (x : T2Id) (v : Byte) (s : State) : TconWritten x v s (writeTcon x v s) := by
  by_cases hv : v = (s.tm x).con
  · rw [hv, writeTcon_same]
    exact tconWritten_same x s
  · by_cases hon : t2On v = t2On (s.tm x).con
    · exact (writeTcon_on_stands hv hon).tconWritten
    · exact (writeTcon_on_changes hv hon).tconWritten

/-- With ON standing no subscription moves. -/
theorem writeTcon_keeps_source {x : T2Id} {v : Byte} {s : State} (hon : t2On v = t2On (s.tm x).con) :
    (writeTcon x v s).pins = s.pins ∧ (writeTcon x v s).subs = s.subs ∧ (writeTcon x v s).faults = s.faults ∧
      ((writeTcon x v s).tm x).ers = (s.tm x).ers := by
  by_cases hv : v = (s.tm x).con
  · rw [hv, writeTcon_same]
    exact ⟨rfl, rfl, rfl, rfl⟩
  · obtain ⟨hother, hstanding, -⟩ := writeTcon_on_stands hv hon
    have hframe := hother.of_setTm.frame
    rw [setTm_tm_same] at hstanding
    refine ⟨?_, ?_, ?_, (congrArg Timer2.ers hstanding :)⟩ <;> rw [hframe]
    · rw [setTm_pins]
    · rw [setTm_subs]
    · rw [setTm_faults]

/-- A subscription moves sinks, and nothing else of a pin. -/
theorem Reselected.pin {x : T2Id} {old : Option SigDesc} {v : Byte} {u : Timer2} {s t : State}
    (h : Reselected x old v u s t) (p : PinIx) : { t.pins[p] with sinks := [] } = { s.pins[p] with sinks := [] } := by
  have hpins : t.pins = heldPins (.tRst x) (t2RstWant s.cfg u) s.pins := by
    rw [h.frame, setTm_pins]
    rfl
  simp [hpins, heldPins]

/-- The level that a source gives when it is gained, the level before where there is none (R237). -/
theorem gained_or_kept (s : State) (want : Option SigDesc) (ers : Level) :
    (want.map (gainedLevel s)).getD ers =
      (match want with
       | none => ers
       | some (.pin p) => if s.pins[p].lvl = .H then .H else .L
       | some _ => .L) := by
  have hlow (l : Level) : lowZ l = if l = .H then .H else .L := by cases l <;> rfl
  rcases want with _ | ⟨p⟩ | ⟨c, sub⟩ | _ | _
  · rfl
  · exact hlow _
  · rfl
  · rfl
  · rfl

/-- Settles O39: `TconWritten` for what every write keeps; with ON standing no subscription moves, and a change of ON
selects the source anew. -/
theorem putTxcon : Obligations.PutTxcon := by
  intro x v s old m
  obtain ⟨hframe, hstanding, harmed, hcount, hevents⟩ := tconWritten_writeTcon x v s
  refine ⟨_, exec_putTcon x v s, ?same, (congrArg Timer2.con hstanding :), hcount, ?post, ?armed, ?standing, hframe,
    hevents, writeTcon_keeps_source, ?changes⟩
  case same =>
    rintro rfl
    exact writeTcon_same x s
  case post =>
    rw [← t2PostAfter_eq]
    exact (congrArg Timer2.post hstanding :)
  case armed => exact fun hL hH hv => (harmed hL hH hv).trans (t2ArmedAfter_eq _ _ _ _)
  case standing =>
    rw [hstanding]
    rfl
  case changes =>
    intro hon src
    have hv : v ≠ (s.tm x).con := fun h => hon (congrArg (bit · 7) h)
    have h := writeTcon_on_changes hv hon
    obtain ⟨hsink, hreceiver, hsinks, hreceivers⟩ := h.holds
    have hers := (congrArg Timer2.ers h.standing).trans (ersAfter_of_none _ (wants_none_of_on_changes hon))
    exact ⟨hsink, hreceiver, hsinks, hreceivers, h.pin, h.faults, hers.trans (gained_or_kept _ _ _)⟩

end Sys2Proof.Machine
end

section
/-!
Laws of a CCP unit's outputs and shutdown (43_ccp.md R283, R310, R312): what showing the outputs does where hosts alone
hear them, what a shutdown changes, and PUT CCPxAS as one equation.
-/

namespace Sys2Proof.Machine

open Sys2Proof

theorem setCcp_setCcp (s : State) (i : CcpId) (u w : Ccp) : (s.setCcp i u).setCcp i w = s.setCcp i w := by
  cases i <;> rfl

theorem setCcp_self (s : State) (i : CcpId) : s.setCcp i (s.ccp i) = s := by cases i <;> rfl

/-! ### Outputs that hosts alone hear -/

/-- The records of PWM_EDGE when output `k` comes to show its level (R283). -/
def edgeRecords (i : CcpId) (s : State) (k : Fin 4) : List OutRec :=
  if bitOf (outputLevel i (s.ccp i) k) = bitOf (s.ccp i).pin[k] then []
  else s.heard .pwmEdge (4 * i.idx + k) (bitOf (outputLevel i (s.ccp i) k)) s.now.toNat

theorem State.ccpAlone.of_same {i : CcpId} {s t : State} (h : s.ccpAlone i) (hpins : t.pins = s.pins)
    (hsubs : t.subsOf .pwmEdge = s.subsOf .pwmEdge) (hdepth : t.busDepth = s.busDepth) (hcfg : t.cfg = s.cfg) :
    t.ccpAlone i := by
  obtain ⟨hpin, hhosts, hd⟩ := h
  refine ⟨fun p k => hpins ▸ hpin p k, ?_, by rwa [hdepth, hcfg]⟩
  unfold State.hostsOnly
  rwa [hsubs]

/-- One output comes to show its level. -/
theorem refreshOutput_alone {i : CcpId} {s : State} (h : s.ccpAlone i) (k : Fin 4) :
    refreshOutput signal i s k = { s with out := s.out ++ edgeRecords i s k }.setCcp i
      { s.ccp i with pin := (s.ccp i).pin.set k (outputLevel i (s.ccp i) k) } := by
  obtain ⟨hpin, hhosts, hd⟩ := h
  unfold refreshOutput edgeRecords
  dsimp only
  by_cases hsame : outputLevel i (s.ccp i) k = (s.ccp i).pin[k]
  · have hset : (s.ccp i).pin.set k (outputLevel i (s.ccp i) k) = (s.ccp i).pin := by
      rw [hsame]
      exact Vector.set_getElem_self k.isLt
    rw [if_pos hsame, hset, if_pos (congrArg bitOf hsame), List.append_nil]
    exact (setCcp_self s i).symm
  · rw [if_neg hsame, driveWhere_none signal _ _ fun p => by rw [setCcp_pins]; exact hpin p k]
    split
    · rw [List.append_nil]
    · rw [publish_hosts]
      · cases i <;> rfl
      · rwa [setCcp_busDepth, setCcp_cfg]
      · unfold State.hostsOnly
        rwa [setCcp_subsOf]

theorem setCcp_out_setCcp (s : State) (i : CcpId) (u w : Ccp) (o : List OutRec) :
    { s.setCcp i u with out := o }.setCcp i w = { s with out := o }.setCcp i w := by cases i <;> rfl

/-- Another output shown before leaves what an output is to show, and what is recorded of it. -/
theorem edgeRecords_after {i : CcpId} {s : State} (o : List OutRec) {j k : Fin 4} (h : j ≠ k) (l : Level) :
    edgeRecords i ({ s with out := o }.setCcp i { s.ccp i with pin := (s.ccp i).pin.set k l }) j = edgeRecords i s j := by
  have hpin : ((s.ccp i).pin.set k l)[j] = (s.ccp i).pin[j] := getElem_set_other _ _ (Ne.symm h)
  unfold edgeRecords State.heard
  rw [setCcp_ccp_same, setCcp_subsOf, setCcp_now]
  dsimp only
  rw [hpin]
  rfl

/-- The entry `k` set and then those of `l` is the entries of `k :: l` set. -/
theorem ofFn_mem_cons (f : Fin 4 → Level) (pin : Vector Level 4) (k : Fin 4) (l : List (Fin 4)) :
    (Vector.ofFn fun j => if j ∈ l then f j else (pin.set k (f k))[j]) =
      Vector.ofFn fun j => if j ∈ k :: l then f j else pin[j] := by
  refine congrArg Vector.ofFn (funext fun j => ?_)
  by_cases hl : j ∈ l
  · simp [hl]
  · by_cases hk : j = k
    · subst hk
      simp
    · rw [if_neg hl, if_neg (by simp [hk, hl]), getElem_set_other _ _ (Ne.symm hk)]

/-- The outputs of a list come to show their levels, one after the other. -/
theorem foldl_refreshOutput_alone {i : CcpId} (l : List (Fin 4)) (hl : l.Nodup) {s : State} (h : s.ccpAlone i) :
    l.foldl (refreshOutput signal i) s = { s with out := s.out ++ l.flatMap (edgeRecords i s) }.setCcp i
      { s.ccp i with
        pin := Vector.ofFn fun k => if k ∈ l then outputLevel i (s.ccp i) k else (s.ccp i).pin[k] } := by
  induction l generalizing s with
  | nil =>
    have hpin : (Vector.ofFn fun k : Fin 4 => (s.ccp i).pin[k]) = (s.ccp i).pin := by
      ext j hj
      simp
    simp only [List.foldl_nil, List.flatMap_nil, List.append_nil, List.not_mem_nil, if_false, hpin]
    exact (setCcp_self s i).symm
  | cons k l ih =>
    obtain ⟨hk, hl⟩ := List.nodup_cons.1 hl
    have h' : ({ s with out := s.out ++ edgeRecords i s k }.setCcp i
        { s.ccp i with pin := (s.ccp i).pin.set k (outputLevel i (s.ccp i) k) }).ccpAlone i :=
      h.of_same (setCcp_pins _ _ _) (setCcp_subsOf _ _ _ _) (setCcp_busDepth _ _ _) (setCcp_cfg _ _ _)
    have hrecords : l.flatMap (edgeRecords i ({ s with out := s.out ++ edgeRecords i s k }.setCcp i
        { s.ccp i with pin := (s.ccp i).pin.set k (outputLevel i (s.ccp i) k) })) = l.flatMap (edgeRecords i s) :=
      List.flatMap_congr fun j hj => edgeRecords_after _ ((by rintro rfl; exact hk hj)) _
    rw [List.foldl_cons, refreshOutput_alone h k, ih hl h', hrecords, setCcp_out_setCcp, setCcp_ccp_same, setCcp_out]
    rw [List.flatMap_cons, List.append_assoc]
    exact congrArg (fun pin => State.setCcp _ i { s.ccp i with pin := pin }) (ofFn_mem_cons _ _ k l)

/-- Showing the outputs where hosts alone hear them: each is at its level, and every change of its 0/1 reading is
published (R283). -/
theorem refresh_alone {i : CcpId} {s : State} (h : s.ccpAlone i) :
    refresh signal i s = { s with out := s.out ++ (List.finRange 4).flatMap (edgeRecords i s) }.setCcp i
      { s.ccp i with pin := Vector.ofFn (outputLevel i (s.ccp i)) } := by
  have hall := foldl_refreshOutput_alone (List.finRange 4) (List.nodup_finRange 4) h
  simp only [List.mem_finRange, if_true] at hall
  exact hall

/-! ### Shutdown -/

/-- The idle levels are outputs of the unit, whatever its steering (R312). -/
theorem idleOutputs_eq (i : CcpId) (s : State) : ∃ l, idleOutputs i s = s.setCcp i { s.ccp i with out := l } := by
  unfold idleOutputs
  split
  · exact ⟨_, rfl⟩
  · exact ⟨_, rfl⟩
  · exact ⟨_, rfl⟩
  · exact ⟨((s.ccp i).out.set 0 .L).set 1 .H, by cases i <;> rfl⟩

/-- Nothing changed but the unit, the queue and the Timer2 family. -/
structure CcpOnly (i : CcpId) (s t : State) : Prop where
  frame : t = { s with queue := t.queue, seq := t.seq, t2 := t.t2, t4 := t.t4, t6 := t.t6 }.setCcp i (t.ccp i)

theorem ccpOnly_setCcp (i : CcpId) (s : State) (u : Ccp) : CcpOnly i s (s.setCcp i u) := ⟨by cases i <;> rfl⟩

theorem ccpOnly_cancel (i : CcpId) (t : TrigId) (s : State) : CcpOnly i s (cancel t s) := ⟨by cases i <;> rfl⟩

theorem T2Only.ccpOnly {x : T2Id} {s t : State} (h : T2Only x s t) (i : CcpId) : CcpOnly i s t := by
  obtain ⟨q, n, u, rfl⟩ : ∃ q n u, t = { s with queue := q, seq := n }.setTm x u := ⟨_, _, _, h.frame⟩
  exact ⟨by cases x <;> cases i <;> rfl⟩

theorem T2Only.ccp {x : T2Id} {s t : State} (h : T2Only x s t) (i : CcpId) : t.ccp i = s.ccp i := by
  rw [h.frame, setTm_ccp]
  cases i <;> rfl

theorem T2Only.pending_none {x : T2Id} {s t : State} (h : T2Only x s t) {u : TrigId} (hu : u ≠ .tBrk x)
    (hs : s.pending u = none) : t.pending u = none := by
  rw [pending_eq_none] at hs ⊢
  intro e he htrig
  exact hs e ((h.events e (by simpa [htrig] using hu)).1 he) htrig

theorem CcpOnly.trans {i : CcpId} {s t u : State} (a : CcpOnly i s t) (b : CcpOnly i t u) : CcpOnly i s u := by
  obtain ⟨a⟩ := a
  obtain ⟨b⟩ := b
  refine ⟨b.trans ?_⟩
  rw [a]
  cases i <;> rfl

/-- What a shutdown does (R312): the unit is shut down, its modulation, armed duty match and pending turn-on are dropped,
and beside its outputs at most a PWM timer's breakpoint moves. -/
structure ShutDown (i : CcpId) (s t : State) : Prop extends CcpOnly i s t where
  unit : t.ccp i =
    { s.ccp i with shutdown := true, dbTarget := none, dutyArmed := false, mod := .L, out := (t.ccp i).out }
  pending : t.pending (.ccpDb i) = none

/-- Other outputs of the unit. -/
theorem ShutDown.setOut {i : CcpId} {s t : State} (h : ShutDown i s t) (l : Vector Level 4) :
    ShutDown i s (t.setCcp i { t.ccp i with out := l }) := by
  obtain ⟨honly, hunit, hpending⟩ := h
  refine ⟨honly.trans (ccpOnly_setCcp _ _ _), ?_, (pending_of_eq (setCcp_queue _ _ _) _).trans hpending⟩
  rw [setCcp_ccp_same, hunit]

/-- Another breakpoint of a PWM timer. -/
theorem ShutDown.timer {i : CcpId} {x : T2Id} {s t u : State} (h : ShutDown i s t) (ht : T2Only x t u) :
    ShutDown i s u := by
  obtain ⟨honly, hunit, hpending⟩ := h
  refine ⟨honly.trans (ht.ccpOnly i), ?_, ht.pending_none (by simp) hpending⟩
  rw [ht.ccp]
  exact hunit

/-- The unit shut down, before its outputs are set idle. -/
def shutdownDropped (i : CcpId) (s : State) : State := (cancel (.ccpDb i) s).setCcp i
  { s.ccp i with shutdown := true, dbTarget := none, dutyArmed := false, mod := .L }

theorem shutdownCcp_eq (i : CcpId) (s : State) : shutdownCcp i s =
    if isPwmMode (ccpMode (s.ccp i)) then
      t2Recompute ((shutdownDropped i s).pwmTimer i) (idleOutputs i (shutdownDropped i s))
    else shutdownDropped i s := by
  cases i <;> rfl

theorem shutDown_shutdownDropped (i : CcpId) (s : State) : ShutDown i s (shutdownDropped i s) := by
  refine ⟨(ccpOnly_cancel i _ s).trans (ccpOnly_setCcp i _ _), ?_, ?_⟩
  · rw [shutdownDropped, setCcp_ccp_same]
  · rw [shutdownDropped, pending_of_eq (setCcp_queue _ _ _), pending_cancel_same]

theorem shutDown_shutdownCcp (i : CcpId) (s : State) : ShutDown i s (shutdownCcp i s) := by
  have hdropped := shutDown_shutdownDropped i s
  rw [shutdownCcp_eq]
  split
  · obtain ⟨l, hidle⟩ := idleOutputs_eq i (shutdownDropped i s)
    rw [hidle]
    exact (hdropped.setOut l).timer (t2Only_t2Place false _ _)
  · exact hdropped

/-! ### PUT CCPxAS -/

/-- The level that the unit keeps of its shutdown signal after a selection (R310). -/
def asLvlAfter (s : State) (old want : Option SigDesc) (l : Level) : Level :=
  if want = old then l else (want.map (gainedLevel s)).getD .L

theorem subscribe_setCcp (s : State) (i : CcpId) (u : Ccp) (k : SinkId) (r : RecvId) (want : Option SigDesc) :
    (s.setCcp i u).subscribe k r want = (s.subscribe k r want).setCcp i u := by cases i <;> rfl

/-- The unit after the store of the byte `new`: the source selected, its level taken if it is another one (R310). -/
def asStored (i : CcpId) (new : Byte) (s : State) : State :=
  (s.subscribe (.ccpShut i) (.ccpAs i) (asWant s.cfg new)).setCcp i { s.ccp i with
    as := new
    asLvl := asLvlAfter s (asWant s.cfg (s.ccp i).as) (asWant s.cfg new) (s.ccp i).asLvl }

theorem asGain_subscribe (i : CcpId) (new : Byte) (s : State) :
    asGain i (asWant s.cfg (s.ccp i).as) (asWant s.cfg new) (raiseIfRefused (asWant s.cfg new)
      (resubscribe (.ccpShut i) (.ccpAs i) (asWant s.cfg new) (s.setCcp i { s.ccp i with as := new }))) =
      asStored i new s := by
  rw [raiseIfRefused_resubscribe, subscribe_setCcp, asStored]
  generalize asWant s.cfg (s.ccp i).as = old, asWant s.cfg new = want
  unfold asGain asLvlAfter
  by_cases h : want = old
  · rw [if_pos h, if_pos h]
  · rw [if_neg h, if_neg h]
    cases want with
    | none =>
      dsimp only
      rw [setCcp_setCcp, setCcp_ccp_same]
      rfl
    | some d =>
      have hgained : gainedLevel ((s.subscribe (.ccpShut i) (.ccpAs i) (some d)).setCcp i
          { s.ccp i with as := new }) d = gainedLevel s d := by
        refine gainedLevel_of_lvl (fun p => ?_) d
        rw [setCcp_pins, lvl_subscribe]
      dsimp only
      rw [hgained, setCcp_setCcp, setCcp_ccp_same]
      rfl

/-- The unit brought into the shutdown state `off` (R310, R312). -/
def settleShutdown (i : CcpId) (off : Bool) (s : State) : State :=
  if off then (if (s.ccp i).shutdown then s else shutdownCcp i s) else s.setCcp i { s.ccp i with shutdown := false }

/-- PUT CCPxAS in four steps: the byte and its source, the shutdown state that the byte or the signal asks for, ASE, the
outputs (R310). -/
theorem writeCcpas_eq (w : Wire) (i : CcpId) (new : Byte) (s : State) : writeCcpas w i new s =
    refresh w i (storeAse i (settleShutdown i (bit new 7 || asActive (asStored i new s) i) (asStored i new s))) := by
  unfold writeCcpas
  dsimp only
  rw [asGain_subscribe]
  generalize asStored i new s = s2
  refine congrArg (fun u => refresh w i (storeAse i u)) ?_
  unfold settleShutdown
  cases hbyte : bit new 7 with
  | true =>
    have hshut : ((shutdownCcp i s2).ccp i).shutdown = true := by rw [(shutDown_shutdownCcp i s2).unit]
    cases hs : (s2.ccp i).shutdown <;> simp [hs, hshut]
  | false =>
    cases hactive : asActive s2 i with
    | true => cases hs : (s2.ccp i).shutdown <;> simp [hs, hactive]
    | false =>
      have hclear : asActive (s2.setCcp i { s2.ccp i with shutdown := false }) i = false := by
        rw [← hactive, asActive, setCcp_cfg, setCcp_ccp_same, asActive]
      cases hs : (s2.ccp i).shutdown with
      | true => simp [hs, hactive, hclear]
      | false =>
        have hself : s2.setCcp i { s2.ccp i with shutdown := false } = s2 := by
          rw [← hs]
          exact setCcp_self s2 i
        simp [hs, hactive, hself]

theorem exec_putCcpas (i : CcpId) (v : Byte) (s : State) :
    exec (putRow v (.ccpas i)) s = .next (writeCcpas signal i v s) :=
  (exec_putRow _ v s).trans (congrArg _ (regPut_unmasked (r := .ccpas i) rfl (fun _ => rfl) rfl v s))

/-- What follows the store and the selection is bounded as a signal is. -/
theorem signalled_writeCcpas (i : CcpId) (new : Byte) (s : State) :
    Signalled (asStored i new s) (writeCcpas signal i new s) := by
  have hsettle (off : Bool) (u : State) : Signalled u (settleShutdown i off u) := by
    unfold settleShutdown
    split
    · split
      · exact .refl u
      · exact sig_shutdownCcp i u
    · exact sig_setCcp (by rfl)
  rw [writeCcpas_eq]
  exact (sig_refresh sig_signal i _).after ((sig_storeAse i _).after (hsettle _ _))

/-- No signal moves a subscription. -/
theorem Holds.signalled {k : SinkId} {r : RecvId} {want : Option SigDesc} {s t u : State} (h : Holds k r want s t)
    (hs : Signalled t u) : Holds k r want s u := by
  have hsinks (p : PinIx) : u.pins[p].sinks = t.pins[p].sinks := by
    have hmap : u.pins.map Pin.config = t.pins.map Pin.config := (congrArg State.pins hs.config :)
    have hpin := congrArg (fun pins : Vector Pin 32 => pins[p].sinks) hmap
    simpa [Pin.config] using hpin
  have hsubs : u.subs = t.subs := (congrArg State.subs hs.config :)
  have hrecvs (c : ChanKind) : u.subsOf c = t.subsOf c := by rw [State.subsOf, hsubs, State.subsOf]
  obtain ⟨hsink, hrecv, hothers, hrecvs'⟩ := h
  exact ⟨fun p => by rw [hsinks, hsink], fun c => by rw [hrecvs, hrecv], fun p j hj => by rw [hsinks, hothers p j hj],
    fun c j hj => by rw [hrecvs, hrecvs' c j hj]⟩

theorem holds_writeCcpas (i : CcpId) (new : Byte) (s : State) :
    Holds (.ccpShut i) (.ccpAs i) (asWant s.cfg new) s (writeCcpas signal i new s) := by
  refine Holds.signalled (t := asStored i new s) (holds_of_held ?_ ?_) (signalled_writeCcpas i new s)
  · rw [asStored, setCcp_pins]
    rfl
  · rw [asStored, setCcp_subs]
    rfl

theorem unmodelled_writeCcpas (i : CcpId) (new : Byte) (s : State) : (writeCcpas signal i new s).faults.unmodelled =
    (s.faults.unmodelled || decide (asWant s.cfg new = some .refused)) := by
  have h : (writeCcpas signal i new s).faults.unmodelled = (asStored i new s).faults.unmodelled :=
    (signalled_writeCcpas i new s).onlyDepth .unmodelled (by decide)
  have hstored : (asStored i new s).faults = refusedFaults (asWant s.cfg new) s.faults := by
    rw [asStored, setCcp_faults]
    rfl
  rw [h, hstored, refusedFaults]
  by_cases hr : asWant s.cfg new = some .refused <;> simp [hr, FaultSet.add]

/-! ### The unit after PUT CCPxAS where hosts alone hear its outputs -/

/-- No entry of the table is a PWM edge: no source that the unit selects is one. -/
theorem asWant_ne_pwmEdge {cfg : Cfg} (h : ∀ d ∈ cfg.ccpAsTable, ∀ sub, d ≠ .bus .pwmEdge sub) (as : Byte) (sub : Nat) :
    asWant cfg as ≠ some (.bus .pwmEdge sub) := by
  intro hw
  unfold asWant at hw
  dsimp only at hw
  split at hw
  · cases hw
  · have hd := Option.some.inj hw
    rw [List.getD_eq_getElem?_getD] at hd
    cases hget : cfg.ccpAsTable[field as 4 3]? with
    | none => simp [hget] at hd
    | some d =>
      rw [hget] at hd
      exact h d (List.mem_of_getElem? hget) sub hd

/-- What the shutdown state's change leaves and drops. -/
structure Settled (i : CcpId) (off : Bool) (s t : State) : Prop extends CcpOnly i s t where
  shutdown : (t.ccp i).shutdown = off
  as : (t.ccp i).as = (s.ccp i).as
  asLvl : (t.ccp i).asLvl = (s.ccp i).asLvl
  began : off = true → (s.ccp i).shutdown = false → (t.ccp i).mod = .L ∧ (t.ccp i).dutyArmed = false ∧
    (t.ccp i).dbTarget = none ∧ t.pending (.ccpDb i) = none

theorem settled_settleShutdown (i : CcpId) (off : Bool) (s : State) : Settled i off s (settleShutdown i off s) := by
  unfold settleShutdown
  cases off with
  | false =>
    refine ⟨ccpOnly_setCcp i s _, ?_, ?_, ?_, fun h => absurd h nofun⟩ <;> simp
  | true =>
    cases hs : (s.ccp i).shutdown with
    | true =>
      refine ⟨⟨?_⟩, hs, rfl, rfl, fun _ h => absurd (hs.symm.trans h) nofun⟩
      exact (setCcp_self s i).symm
    | false =>
      obtain ⟨honly, hunit, hpending⟩ := shutDown_shutdownCcp i s
      simp only [if_true, Bool.false_eq_true, if_false]
      generalize shutdownCcp i s = t at *
      refine ⟨honly, ?_, ?_, ?_, fun _ _ => ⟨?_, ?_, ?_, hpending⟩⟩ <;> rw [hunit]

/-- The other CCP unit, Timer0, Timer1, the oscillator, the NCO and the ADC stand. -/
structure OthersStand (i : CcpId) (s t : State) : Prop where
  ccp : ∀ j, j ≠ i → t.ccp j = s.ccp j
  t0 : t.t0 = s.t0
  t1 : t.t1 = s.t1
  osc : t.osc = s.osc
  nco : t.nco = s.nco
  adc : t.adc = s.adc

theorem OthersStand.trans {i : CcpId} {s t u : State} (a : OthersStand i s t) (b : OthersStand i t u) :
    OthersStand i s u :=
  ⟨fun j hj => (b.ccp j hj).trans (a.ccp j hj), b.t0.trans a.t0, b.t1.trans a.t1, b.osc.trans a.osc, b.nco.trans a.nco,
    b.adc.trans a.adc⟩

theorem othersStand_setCcp (i : CcpId) (s : State) (u : Ccp) : OthersStand i s (s.setCcp i u) :=
  ⟨setCcp_ccp_other i u s, setCcp_t0 i u s, setCcp_t1 i u s, setCcp_osc i u s, setCcp_nco i u s, setCcp_adc i u s⟩

theorem CcpOnly.othersStand {i : CcpId} {s t : State} (h : CcpOnly i s t) : OthersStand i s t := by
  have hbase : OthersStand i s { s with queue := t.queue, seq := t.seq, t2 := t.t2, t4 := t.t4, t6 := t.t6 } :=
    ⟨fun j _ => by cases j <;> rfl, rfl, rfl, rfl, rfl, rfl⟩
  have hall := hbase.trans (othersStand_setCcp i _ (t.ccp i))
  rwa [← h.frame] at hall

theorem othersStand_asStored (i : CcpId) (new : Byte) (s : State) : OthersStand i s (asStored i new s) := by
  have hbase : OthersStand i s (s.subscribe (.ccpShut i) (.ccpAs i) (asWant s.cfg new)) :=
    ⟨fun j _ => by cases j <;> rfl, rfl, rfl, rfl, rfl, rfl⟩
  exact hbase.trans (othersStand_setCcp i _ _)

/-- The wiring of the unit's outputs is no business of its shutdown. -/
theorem CcpOnly.ccpAlone {i : CcpId} {s t : State} (h : CcpOnly i s t) (ha : s.ccpAlone i) : t.ccpAlone i := by
  refine ha.of_same ?_ ?_ ?_ ?_ <;> rw [h.frame]
  · rw [setCcp_pins]
  · rw [setCcp_subsOf]
    rfl
  · rw [setCcp_busDepth]
  · rw [setCcp_cfg]

/-- A shutdown source that is no PWM edge leaves the unit's outputs to hosts. -/
theorem ccpAlone_asStored {i : CcpId} {new : Byte} {s : State} (h : s.ccpAlone i)
    (hw : ∀ sub, asWant s.cfg new ≠ some (.bus .pwmEdge sub)) : (asStored i new s).ccpAlone i := by
  obtain ⟨hpin, hhosts, hd⟩ := h
  obtain ⟨-, hreceiver, -, hreceivers⟩ : Holds (.ccpShut i) (.ccpAs i) (asWant s.cfg new) s
      (s.subscribe (.ccpShut i) (.ccpAs i) (asWant s.cfg new)) := holds_of_held rfl rfl
  have hbase : (s.subscribe (.ccpShut i) (.ccpAs i) (asWant s.cfg new)).ccpAlone i := by
    refine ⟨fun p k => ?_, fun r hr => ?_, hd⟩
    · have hp : pinOfOutput i k (s.subscribe (.ccpShut i) (.ccpAs i) (asWant s.cfg new)).pins[p] =
          pinOfOutput i k s.pins[p] := by
        cases i <;> simp [State.subscribe, heldPins, pinOfOutput]
      rw [hp, hpin]
    · by_cases hr' : r = .ccpAs i
      · subst hr'
        obtain ⟨sub, hsub⟩ := (hreceiver _).1 hr
        exact absurd hsub (hw sub)
      · exact hhosts r ((hreceivers _ r hr').1 hr)
  exact hbase.of_same (setCcp_pins _ _ _) (setCcp_subsOf _ _ _ _) (setCcp_busDepth _ _ _) (setCcp_cfg _ _ _)

theorem storeAse_ccp (i : CcpId) (s : State) :
    (storeAse i s).ccp i = { s.ccp i with as := setBit (s.ccp i).as 7 (s.ccp i).shutdown } := setCcp_ccp_same _ _ _

/-- ASE and the outputs, after the shutdown state is settled. -/
theorem refresh_storeAse_alone {i : CcpId} {s : State} (h : s.ccpAlone i) :
    ∃ o, refresh signal i (storeAse i s) = { s with out := o }.setCcp i
      { (storeAse i s).ccp i with pin := Vector.ofFn (outputLevel i ((storeAse i s).ccp i)) } := by
  have hase : (storeAse i s).ccpAlone i := (ccpOnly_setCcp i s _).ccpAlone h
  obtain ⟨o, hrefresh⟩ : ∃ o, refresh signal i (storeAse i s) = { storeAse i s with out := o }.setCcp i
      { (storeAse i s).ccp i with pin := Vector.ofFn (outputLevel i ((storeAse i s).ccp i)) } :=
    ⟨_, refresh_alone hase⟩
  exact ⟨o, hrefresh.trans (setCcp_out_setCcp s i _ _ o)⟩

/-- The level that the unit keeps, as R310 words it. -/
theorem asLvlAfter_eq (s : State) (old want : Option SigDesc) (l : Level) : asLvlAfter s old want l =
    if want = old then l else
      match want with | some (.pin p) => (if s.pins[p].lvl = .H then .H else .L) | _ => .L := by
  unfold asLvlAfter
  rw [gained_or_kept]
  rcases want with _ | ⟨p⟩ | ⟨c, sub⟩ | _ | _ <;> rfl

theorem setBit7_eq (b : Byte) (v : Bool) : setBit b 7 v = if v then b ||| 0x80 else b &&& 0x7F := by
  cases v <;> rfl

/-- Settles O46: the subscription by `holds_writeCcpas`; where hosts alone hear the outputs, the four steps of
`writeCcpas_eq`, each by what it leaves. -/
theorem shutdownWrites : Obligations.ShutdownWrites := by
  intro i v s u src lvl off
  obtain ⟨hsink, hreceiver, hsinks, hreceivers⟩ := holds_writeCcpas i v s
  refine ⟨_, exec_putCcpas i v s, hsink, hreceiver, hsinks, hreceivers, unmodelled_writeCcpas i v s,
    fun halone htable => ?_⟩
  have hstored : (asStored i v s).ccp i = { s.ccp i with as := v, asLvl := lvl } := by
    have hlvl : asLvlAfter s (asWant s.cfg u.as) (asWant s.cfg v) u.asLvl = lvl := asLvlAfter_eq _ _ _ _
    rw [asStored, setCcp_ccp_same, hlvl]
  have hoff : (bit v 7 || asActive (asStored i v s) i) = off := by
    rw [asActive, hstored, asStored, setCcp_cfg]
    rfl
  have hsettled := settled_settleShutdown i off (asStored i v s)
  have halone' := hsettled.ccpAlone (ccpAlone_asStored halone fun sub => asWant_ne_pwmEdge htable v sub)
  have hothers := (othersStand_asStored i v s).trans hsettled.othersStand
  obtain ⟨o, hwrite⟩ := refresh_storeAse_alone halone'
  rw [writeCcpas_eq, hoff, hwrite]
  obtain ⟨-, hshutdown, has, hasLvl, hbegan⟩ := hsettled
  rw [hstored] at has hasLvl hbegan
  generalize settleShutdown i off (asStored i v s) = t at *
  obtain ⟨hccp, ht0, ht1, hosc, hnco, hadc⟩ := (hothers.trans (t := t) (u := { t with out := o })
    ⟨fun j _ => by cases j <;> rfl, rfl, rfl, rfl, rfl, rfl⟩).trans (othersStand_setCcp i _
      { (storeAse i t).ccp i with pin := Vector.ofFn (outputLevel i ((storeAse i t).ccp i)) })
  refine ⟨?shutdown, ?as, ?asLvl, fun k => ?pin, fun h hu => ?began, hccp, ht0, ht1, hosc, hnco, hadc⟩
  all_goals rw [setCcp_ccp_same]
  case shutdown =>
    rw [storeAse_ccp]
    exact hshutdown
  case as =>
    rw [storeAse_ccp, has, hshutdown]
    exact setBit7_eq v off
  case asLvl =>
    rw [storeAse_ccp]
    exact hasLvl
  case pin => exact Vector.getElem_ofFn k.isLt
  case began =>
    obtain ⟨hmod, harmed, htarget, hpending⟩ := hbegan h hu
    rw [storeAse_ccp]
    exact ⟨hmod, harmed, htarget, (pending_of_eq (setCcp_queue _ _ _) _).trans hpending⟩

end Sys2Proof.Machine
end

section
/-!
Proof that every command keeps each timer running exactly while its run condition holds (42_timers.md R210, R218, R231;
60_exceptions.md R455): what restarts a timer sets its run state by the condition, and nothing else touches either.
-/

namespace Sys2Proof.Machine

open Sys2Proof

/-! ### Run states and run conditions that stand -/

/-- A timer's run state beside its run condition (R210, R218, R231). -/
def State.run0 (s : State) : Bool × Bool := (s.t0.run, t0RunCond s)
def State.run1 (s : State) : Bool × Bool := (s.t1.run, t1RunCond s)
def State.run2 (s : State) (x : T2Id) : Bool × Bool := ((s.tm x).run, t2RunCond s x)

/-- No timer's run state and no run condition changed. -/
structure SameRuns (s t : State) : Prop where
  t0 : t.run0 = s.run0
  t1 : t.run1 = s.run1
  t2 : ∀ x, t.run2 x = s.run2 x

/-- Run states that agree with their conditions before do so after. -/
def KeepsRunning (s t : State) : Prop := s.Running → t.Running

theorem running_iff {s : State} :
    s.Running ↔ s.run0.1 = s.run0.2 ∧ s.run1.1 = s.run1.2 ∧ ∀ x, (s.run2 x).1 = (s.run2 x).2 := Iff.rfl

theorem SameRuns.refl (s : State) : SameRuns s s := ⟨rfl, rfl, fun _ => rfl⟩

theorem SameRuns.after {s t u : State} (b : SameRuns t u) (a : SameRuns s t) : SameRuns s u :=
  ⟨b.t0.trans a.t0, b.t1.trans a.t1, fun x => (b.t2 x).trans (a.t2 x)⟩

theorem SameRuns.keeps {s t : State} (h : SameRuns s t) : KeepsRunning s t := by
  intro hs
  rw [running_iff] at *
  simpa only [h.t0, h.t1, h.t2] using hs

theorem KeepsRunning.refl (s : State) : KeepsRunning s s := id

theorem KeepsRunning.after {s t u : State} (b : KeepsRunning t u) (a : KeepsRunning s t) : KeepsRunning s u := b ∘ a

theorem sameRuns_ite {s : State} {p : Prop} [Decidable p] {a b : State} (ha : SameRuns s a) (hb : SameRuns s b) :
    SameRuns s (if p then a else b) := by split <;> assumption

theorem keeps_ite {s : State} {p : Prop} [Decidable p] {a b : State} (ha : KeepsRunning s a) (hb : KeepsRunning s b) :
    KeepsRunning s (if p then a else b) := by split <;> assumption

theorem keeps_foldl {α : Type} (f : State → α → State) (l : List α) (h : ∀ s a, KeepsRunning s (f s a)) (s : State) :
    KeepsRunning s (l.foldl f s) := by
  induction l generalizing s with
  | nil => exact .refl s
  | cons a l ih => exact (ih _).after (h s a)

/-! ### Changes that are no business of a timer's run -/

theorem sameRuns_setTm {s : State} {x : T2Id} {u : Timer2} (hrun : u.run = (s.tm x).run := by rfl)
    (hcon : u.con = (s.tm x).con := by rfl) (hhlt : u.hlt = (s.tm x).hlt := by rfl)
    (hclkcon : u.clkcon = (s.tm x).clkcon := by rfl) (harmed : u.armed = (s.tm x).armed := by rfl)
    (hers : u.ers = (s.tm x).ers := by rfl) : SameRuns s (s.setTm x u) := by
  refine ⟨by cases x <;> rfl, by cases x <;> rfl, fun y => ?_⟩
  simp only [State.run2, t2RunCond, setTm_cfg, setTm_sleeping]
  exact field_setTm (fun t => (t.run, hltCounts (t2Policy s.cfg t.hlt) (t2On t.con) t.armed t.ers && !s.sleeping &&
    t2Clk s.cfg t.clkcon != .openEntry)) fun _ => by rw [hrun, hcon, hhlt, hclkcon, harmed, hers]

theorem sameRuns_setCcp (s : State) (i : CcpId) (u : Ccp) : SameRuns s (s.setCcp i u) := by
  cases i <;> exact ⟨rfl, rfl, fun _ => rfl⟩

theorem sameRuns_setClc (s : State) (n : ClcId) (c : Clc) : SameRuns s (s.setClc n c) := by
  cases n <;> exact ⟨rfl, rfl, fun _ => rfl⟩

theorem sameRuns_nco (s : State) (u : Nco) : SameRuns s { s with nco := u } := ⟨rfl, rfl, fun _ => rfl⟩
theorem sameRuns_adc (s : State) (u : Adc) : SameRuns s { s with adc := u } := ⟨rfl, rfl, fun _ => rfl⟩
theorem sameRuns_osc (s : State) (u : Osc) : SameRuns s { s with osc := u } := ⟨rfl, rfl, fun _ => rfl⟩
theorem sameRuns_emit (r : OutRec) (s : State) : SameRuns s (emit r s) := ⟨rfl, rfl, fun _ => rfl⟩
theorem sameRuns_raiseFault (k : FaultKind) (s : State) : SameRuns s (raiseFault k s) := ⟨rfl, rfl, fun _ => rfl⟩
theorem sameRuns_cancel (t : TrigId) (s : State) : SameRuns s (cancel t s) := ⟨rfl, rfl, fun _ => rfl⟩

theorem sameRuns_wiring (s : State) (pins : Vector Pin 32) (subs : Vector (List RecvId) 11) :
    SameRuns s { s with pins := pins, subs := subs } := ⟨rfl, rfl, fun _ => rfl⟩

theorem sameRuns_schedule (t : TrigId) (c : Nat) (s : State) : SameRuns s (schedule t c s) := by
  rcases schedule_cases t c s with ⟨-, e⟩ | ⟨-, e⟩ <;> rw [e] <;> exact ⟨rfl, rfl, fun _ => rfl⟩

theorem sameRuns_reschedule (t : TrigId) (c : Nat) (s : State) : SameRuns s (reschedule t c s) :=
  (sameRuns_schedule _ _ _).after (sameRuns_cancel t s)

theorem sameRuns_setFlag (f : Flag) (v : Bool) (s : State) : SameRuns s (s.setFlag f v) := by
  cases f with
  | tmrx x => exact sameRuns_setTm
  | ccp i => exact sameRuns_setCcp s i _
  | clc n => exact sameRuns_setClc s n _
  | _ => exact ⟨rfl, rfl, fun _ => rfl⟩

theorem sameRuns_raiseIF (f : Flag) (s : State) : SameRuns s (raiseIF f s) :=
  (sameRuns_emit _ _).after (sameRuns_setFlag f true s)

theorem sameRuns_subscribe (s : State) (k : SinkId) (r : RecvId) (want : Option SigDesc) :
    SameRuns s (s.subscribe k r want) := ⟨rfl, rfl, fun _ => rfl⟩

/-- A breakpoint of Timer1 is no part of its run (R219). -/
theorem sameRuns_t1Recompute (s : State) : SameRuns s (t1Recompute s) := by
  unfold t1Recompute
  dsimp only
  split
  · exact (sameRuns_reschedule _ _ _).after ⟨rfl, rfl, fun _ => rfl⟩
  · exact (sameRuns_cancel _ _).after ⟨rfl, rfl, fun _ => rfl⟩

theorem sameRuns_t1Clear (s : State) : SameRuns s (t1Clear s) :=
  sameRuns_ite ((sameRuns_t1Recompute _).after ⟨rfl, rfl, fun _ => rfl⟩)
    ((sameRuns_t1Recompute _).after ⟨rfl, rfl, fun _ => rfl⟩)

/-- A breakpoint of the Timer2 family is no part of a timer's run (R239). -/
theorem sameRuns_t2Place (due : Bool) (x : T2Id) (s : State) : SameRuns s (t2Place due x s) := by
  unfold t2Place
  dsimp only
  split
  · exact (sameRuns_reschedule _ _ _).after sameRuns_setTm
  · exact (sameRuns_cancel _ _).after sameRuns_setTm

theorem sameRuns_t2Recompute (x : T2Id) (s : State) : SameRuns s (t2Recompute x s) := sameRuns_t2Place _ _ _

/-! ### A timer restarted -/

/-- No other timer's run changed than Timer0's. -/
structure SameButT0 (s t : State) : Prop where
  t1 : t.run1 = s.run1
  t2 : ∀ x, t.run2 x = s.run2 x

/-- No other timer's run changed than Timer1's. -/
structure SameButT1 (s t : State) : Prop where
  t0 : t.run0 = s.run0
  t2 : ∀ x, t.run2 x = s.run2 x

/-- No other timer's run changed than `x`'s. -/
structure SameButT2 (x : T2Id) (s t : State) : Prop where
  t0 : t.run0 = s.run0
  t1 : t.run1 = s.run1
  t2 : ∀ y, y ≠ x → t.run2 y = s.run2 y

theorem SameRuns.butT0 {s t : State} (h : SameRuns s t) : SameButT0 s t := ⟨h.t1, h.t2⟩

theorem SameRuns.butT1 {s t : State} (h : SameRuns s t) : SameButT1 s t := ⟨h.t0, h.t2⟩

theorem SameRuns.butT2 {x : T2Id} {s t : State} (h : SameRuns s t) : SameButT2 x s t := ⟨h.t0, h.t1, fun y _ => h.t2 y⟩

theorem SameButT0.after {s t u : State} (b : SameButT0 t u) (a : SameButT0 s t) : SameButT0 s u :=
  ⟨b.t1.trans a.t1, fun x => (b.t2 x).trans (a.t2 x)⟩

theorem SameButT1.after {s t u : State} (b : SameButT1 t u) (a : SameButT1 s t) : SameButT1 s u :=
  ⟨b.t0.trans a.t0, fun x => (b.t2 x).trans (a.t2 x)⟩

theorem SameButT2.after {x : T2Id} {s t u : State} (b : SameButT2 x t u) (a : SameButT2 x s t) : SameButT2 x s u :=
  ⟨b.t0.trans a.t0, b.t1.trans a.t1, fun y hy => (b.t2 y hy).trans (a.t2 y hy)⟩

theorem sameButT1_t1 (s : State) (u : Timer1) : SameButT1 s { s with t1 := u } := ⟨rfl, fun _ => rfl⟩

theorem sameButT2_setTm (s : State) (x : T2Id) (u : Timer2) : SameButT2 x s (s.setTm x u) := by
  refine ⟨by cases x <;> rfl, by cases x <;> rfl, fun y hy => ?_⟩
  simp only [State.run2, t2RunCond, setTm_cfg, setTm_sleeping, setTm_tm_other _ _ _ _ hy]

theorem sameButT1_t1Update (v : Half) (s : State) : SameButT1 s (t1Update v s) := by
  unfold t1Update
  split <;> exact (sameRuns_t1Recompute _).butT1.after (sameButT1_t1 s _)

theorem sameButT2_t2Update (x : T2Id) (v : Byte) (s : State) : SameButT2 x s (t2Update x v s) := by
  unfold t2Update
  dsimp only
  split <;> exact (sameRuns_t2Recompute x _).butT2.after (sameButT2_setTm s x _)

/-- `T1Update` sets Timer1 running exactly if its condition holds (R221). -/
theorem run1_t1Update (v : Half) (s : State) : (t1Update v s).run1 = (t1RunCond s, t1RunCond s) := by
  have hrun (b : Bool) (anchor : Int) (held : Half) (hb : t1RunCond s = b) :
      State.run1 { s with t1 := { s.t1 with run := b, anchor := anchor, held := held } } =
        (t1RunCond s, t1RunCond s) := by
    rw [hb]
    exact congrArg (Prod.mk b) hb
  unfold t1Update
  split
  next h => exact (sameRuns_t1Recompute _).t1.trans (hrun true _ _ h)
  next h => exact (sameRuns_t1Recompute _).t1.trans (hrun false _ _ (Bool.eq_false_iff.2 h))

/-- `T2Update` sets the timer running exactly if its condition holds (R233). -/
theorem run2_t2Update (x : T2Id) (v : Byte) (s : State) :
    (t2Update x v s).run2 x = (t2RunCond s x, t2RunCond s x) := by
  have hrun (b : Bool) (k : Ratio) (anchor : Int) (held : Byte) (hb : t2RunCond s x = b) :
      (s.setTm x { s.tm x with run := b, ratio := k, anchor := anchor, held := held }).run2 x =
        (t2RunCond s x, t2RunCond s x) := by
    rw [State.run2, setTm_tm_same, hb]
    refine congrArg (Prod.mk b) (Eq.trans ?_ hb)
    simp only [t2RunCond, setTm_tm_same, setTm_cfg, setTm_sleeping]
  unfold t2Update
  dsimp only
  split
  next h => exact ((sameRuns_t2Recompute x _).t2 x).trans (hrun true _ _ _ h)
  next h => exact ((sameRuns_t2Recompute x _).t2 x).trans (hrun false _ _ _ (Bool.eq_false_iff.2 h))

/-- Timer1 set running by its condition, whatever was done to it before. -/
theorem keeps_t1Update {s t : State} (v : Half) (h : SameButT1 s t) : KeepsRunning s (t1Update v t) := by
  intro hs
  obtain ⟨h0, h2⟩ := (sameButT1_t1Update v t).after h
  rw [running_iff] at *
  obtain ⟨hs0, -, hs2⟩ := hs
  rw [h0, run1_t1Update]
  exact ⟨hs0, rfl, fun x => h2 x ▸ hs2 x⟩

/-- A timer of the Timer2 family set running by its condition, whatever was done to it before. -/
theorem keeps_t2Update {x : T2Id} {s t : State} (v : Byte) (h : SameButT2 x s t) :
    KeepsRunning s (t2Update x v t) := by
  intro hs
  obtain ⟨h0, h1, h2⟩ := (sameButT2_t2Update x v t).after h
  rw [running_iff] at *
  obtain ⟨hs0, hs1, hs2⟩ := hs
  refine ⟨h0 ▸ hs0, h1 ▸ hs1, fun y => ?_⟩
  by_cases hy : y = x
  · rw [hy, run2_t2Update]
  · exact h2 y hy ▸ hs2 y

theorem sameButT0_t0 (s : State) (u : Timer0) : SameButT0 s { s with t0 := u } := ⟨rfl, fun _ => rfl⟩

theorem sameButT0_t0Start (v : Byte) (s : State) : SameButT0 s (t0Start v s) :=
  (sameRuns_reschedule _ _ _).butT0.after (sameButT0_t0 s _)

theorem sameButT0_t0Stop (v : Byte) (s : State) : SameButT0 s (t0Stop v s) :=
  (sameRuns_cancel _ _).butT0.after (sameButT0_t0 s _)

theorem run0_t0Start (v : Byte) (s : State) : (t0Start v s).run0 = (true, t0RunCond s) :=
  (sameRuns_reschedule _ _ _).t0

theorem run0_t0Stop (v : Byte) (s : State) : (t0Stop v s).run0 = (false, t0RunCond s) := rfl

/-- Timer0 with its run state as its condition, and the other timers as they were. -/
theorem keeps_of_run0 {s t : State} (hrun : t.run0.1 = t.run0.2) (h : SameButT0 s t) : KeepsRunning s t := by
  intro hs
  rw [running_iff] at *
  obtain ⟨-, hs1, hs2⟩ := hs
  exact ⟨hrun, h.t1 ▸ hs1, fun x => h.t2 x ▸ hs2 x⟩

/-- Timer0 started or stopped by its condition, whatever was done to it before (R214). -/
theorem keeps_t0Write {s t : State} (v : Byte) (h : SameButT0 s t) :
    KeepsRunning s (if t0RunCond t then t0Start v t else t0Stop v t) := by
  split
  next hc => exact keeps_of_run0 (by rw [run0_t0Start, hc]) ((sameButT0_t0Start v t).after h)
  next hc => exact keeps_of_run0 (by rw [run0_t0Stop, Bool.eq_false_iff.2 hc]) ((sameButT0_t0Stop v t).after h)

/-! ### Timer1's gate and the reset signal -/

theorem keeps_t1GateLevelInput (l : Level) (s : State) : KeepsRunning s (t1GateLevelInput l s) :=
  keeps_ite (.refl s) (keeps_t1Update _ (sameButT1_t1 s _))

theorem keeps_t1GateEventInput (s : State) : KeepsRunning s (t1GateEventInput s) := keeps_t1Update _ (sameButT1_t1 s _)

theorem keeps_t1GateSink (p : PinIx) (l : Level) (s : State) : KeepsRunning s (t1GateSink p l s) :=
  keeps_ite (keeps_t1GateLevelInput _ s) (.refl s)

theorem keeps_t1GateRecv (k : ChanKind) (sub v : Nat) (s : State) : KeepsRunning s (t1GateRecv k sub v s) :=
  keeps_ite (keeps_ite (keeps_t1GateEventInput s) (keeps_t1GateLevelInput _ s)) (.refl s)

theorem sameButT2_t2ArmLevel (x : T2Id) (s : State) : SameButT2 x s (t2ArmLevel x s) := by
  unfold t2ArmLevel
  dsimp only
  split
  · exact sameButT2_setTm s x _
  · exact (SameRuns.refl s).butT2

theorem sameButT2_t2Resubscribe (x : T2Id) (old : Option SigDesc) (s : State) (u : Timer2) :
    SameButT2 x s (t2Resubscribe x old (s.setTm x u)) := by
  rw [t2Resubscribe_setTm]
  exact (sameButT2_setTm _ x _).after (sameRuns_subscribe s _ _ _).butT2

theorem keeps_t2ErsInput (x : T2Id) (e : Level) (s : State) : KeepsRunning s (t2ErsInput x e s) :=
  keeps_ite (.refl s) (keeps_t2Update _ ((sameButT2_t2ArmLevel x _).after (sameButT2_setTm s x _)))

theorem keeps_t2RstSink (x : T2Id) (p : PinIx) (l : Level) (s : State) : KeepsRunning s (t2RstSink x p l s) :=
  keeps_ite (keeps_t2ErsInput _ _ s) (.refl s)

theorem keeps_t2RstRecv (x : T2Id) (k : ChanKind) (sub v : Nat) (s : State) : KeepsRunning s (t2RstRecv x k sub v s) :=
  keeps_ite (keeps_ite ((keeps_t2ErsInput _ _ _).after (keeps_t2ErsInput _ _ s)) (keeps_t2ErsInput _ _ s)) (.refl s)

/-! ### CCP units and the ADC -/

theorem sameRuns_setOutput (i : CcpId) (k : Fin 4) (l : Level) (s : State) : SameRuns s (setOutput i k l s) :=
  sameRuns_setCcp s i _

theorem sameRuns_rise (i : CcpId) (k : Fin 4) (s : State) : SameRuns s (rise i k s) :=
  sameRuns_ite ((sameRuns_cancel _ _).after ((sameRuns_setOutput _ _ _ _).after (sameRuns_setCcp s i _)))
    ((sameRuns_reschedule _ _ _).after (sameRuns_setCcp s i _))

theorem sameRuns_shutdownCcp (i : CcpId) (s : State) : SameRuns s (shutdownCcp i s) := by
  have hdropped : SameRuns s (shutdownDropped i s) := (sameRuns_setCcp _ i _).after (sameRuns_cancel _ s)
  rw [shutdownCcp_eq]
  obtain ⟨l, hidle⟩ := idleOutputs_eq i (shutdownDropped i s)
  rw [hidle]
  exact sameRuns_ite ((sameRuns_t2Recompute _ _).after ((sameRuns_setCcp _ i _).after hdropped)) hdropped

theorem sameRuns_storeAse (i : CcpId) (s : State) : SameRuns s (storeAse i s) := sameRuns_setCcp s i _

theorem sameRuns_captureSink (i : CcpId) (old new : Level) (s : State) : SameRuns s (captureSink i old new s) :=
  sameRuns_ite (sameRuns_ite ((sameRuns_raiseIF _ _).after (sameRuns_setCcp s i _)) (sameRuns_setCcp s i _)) (.refl s)

theorem sameRuns_adcStart (s : State) : SameRuns s (adcStart s) :=
  sameRuns_ite (.refl s) (sameRuns_ite ((sameRuns_reschedule _ _ _).after ((sameRuns_adc _ _).after (sameRuns_adc s _)))
    ((sameRuns_emit _ _).after (sameRuns_adc s _)))

theorem sameRuns_compareAction (i : CcpId) (s : State) : SameRuns s (compareAction i s) := by
  unfold compareAction
  split
  · exact sameRuns_setOutput _ _ _ s
  · exact sameRuns_setOutput _ _ _ s
  · exact sameRuns_setOutput _ _ _ s
  · exact (sameRuns_reschedule _ _ _).after (sameRuns_setOutput _ _ _ s)
  · exact sameRuns_adcStart s
  · exact .refl s

/-! ### With a wire below -/

section
variable {w : Wire} (hw : ∀ x s, KeepsRunning s (w x s))
include hw

theorem keeps_driveWhere (pred : Pin → Bool) (s : State) : KeepsRunning s (driveWhere w pred s) :=
  keeps_foldl _ _ (fun s _ => keeps_ite (hw _ s) (.refl s)) s

theorem keeps_t0Edge (old new : Level) (s : State) : KeepsRunning s (t0Edge w old new s) := by
  have hcount (h : Byte) : SameRuns s { s with t0 := { s.t0 with pre := (preStep s.t0.pre).1, held := h } } :=
    ⟨rfl, rfl, fun _ => rfl⟩
  exact keeps_ite (keeps_ite (keeps_ite ((hw _ _).after ((sameRuns_raiseIF _ _).after (hcount _)).keeps) (hcount _).keeps)
    (hcount _).keeps) (.refl s)

theorem keeps_refreshOutput (i : CcpId) (s : State) (k : Fin 4) : KeepsRunning s (refreshOutput w i s k) := by
  have hshown (u : Ccp) : KeepsRunning s (driveWhere w (pinOfOutput i k) (s.setCcp i u)) :=
    (keeps_driveWhere hw _ _).after (sameRuns_setCcp s i u).keeps
  exact keeps_ite (.refl s) (keeps_ite (hshown _) ((hw _ _).after (hshown _)))

theorem keeps_refresh (i : CcpId) (s : State) : KeepsRunning s (refresh w i s) :=
  keeps_foldl _ _ (keeps_refreshOutput hw i) s

theorem keeps_setMod (i : CcpId) (m : Level) (s : State) : KeepsRunning s (setMod w i m s) := by
  have hmod := sameRuns_setCcp s i { s.ccp i with mod := m }
  unfold setMod
  dsimp only
  refine (keeps_refresh hw i _).after (SameRuns.keeps ?_)
  split
  · exact (sameRuns_setOutput _ _ _ _).after hmod
  · exact (sameRuns_setCcp _ i _).after hmod
  · exact (sameRuns_setCcp _ i _).after hmod
  · exact sameRuns_ite hmod (sameRuns_ite ((sameRuns_rise _ _ _).after ((sameRuns_setOutput _ _ _ _).after hmod))
      ((sameRuns_rise _ _ _).after ((sameRuns_setOutput _ _ _ _).after hmod)))

theorem keeps_asActivate (i : CcpId) (s : State) : KeepsRunning s (asActivate w i s) :=
  keeps_ite (.refl s)
    ((keeps_refresh hw i _).after ((sameRuns_storeAse i _).after (sameRuns_shutdownCcp i s)).keeps)

theorem keeps_asLevelInput (i : CcpId) (l : Level) (s : State) : KeepsRunning s (asLevelInput w i l s) :=
  keeps_ite ((keeps_asActivate hw i _).after (sameRuns_setCcp s i _).keeps) (sameRuns_setCcp s i _).keeps

theorem keeps_asSink (i : CcpId) (p : PinIx) (l : Level) (s : State) : KeepsRunning s (asSink w i p l s) :=
  keeps_ite (keeps_asLevelInput hw _ _ s) (.refl s)

theorem keeps_asRecv (i : CcpId) (k : ChanKind) (sub v : Nat) (s : State) : KeepsRunning s (asRecv w i k sub v s) :=
  keeps_ite (keeps_ite (keeps_asActivate hw _ s) (keeps_asLevelInput hw _ _ s)) (.refl s)

theorem keeps_compareMatch (i : CcpId) (s : State) : KeepsRunning s (compareMatch w i s) := by
  have hshown : KeepsRunning s (raiseIF (.ccp i) (refresh w i (compareAction i s))) :=
    (sameRuns_raiseIF _ _).keeps.after ((keeps_refresh hw i _).after (sameRuns_compareAction i s).keeps)
  exact keeps_ite ((sameRuns_t1Clear _).keeps.after hshown) hshown

theorem keeps_t1Rollover (s : State) : KeepsRunning s (t1Rollover w s) := (hw _ _).after (sameRuns_raiseIF _ s).keeps

theorem keeps_t1Edge (k : SinkId) (old new : Level) (s : State) : KeepsRunning s (t1Edge w k old new s) := by
  have hcount (h : Half) :
      KeepsRunning s { s with t1 := { s.t1 with pre := (preStep s.t1.pre).1, held := h } } :=
    SameRuns.keeps ⟨rfl, rfl, fun _ => rfl⟩
  exact keeps_ite (keeps_ite ((keeps_foldl _ _ (fun u _ => keeps_ite (keeps_compareMatch hw _ u) (.refl u)) _).after
    (keeps_ite ((keeps_t1Rollover hw _).after (hcount _)) (hcount _))) (hcount _)) (.refl s)

theorem keeps_ncoOutput (s : State) : KeepsRunning s (ncoOutput w s) :=
  keeps_ite (.refl s) ((hw _ _).after ((keeps_driveWhere hw _ _).after (sameRuns_nco s _).keeps))

theorem keeps_ncoOverflow (c : Nat) (s : State) : KeepsRunning s (ncoOverflow w c s) := by
  have hnco (u : Nco) : SameRuns s { raiseIF .nco s with nco := u } :=
    (sameRuns_nco _ u).after (sameRuns_raiseIF .nco s)
  exact (keeps_ncoOutput hw _).after (SameRuns.keeps (sameRuns_ite
    (sameRuns_ite ((sameRuns_reschedule _ _ _).after (hnco _)) (hnco _)) (hnco _)))

theorem keeps_ncoPulseStep (s : State) : KeepsRunning s (ncoPulseStep w s) :=
  keeps_ite (.refl s) (keeps_ite ((keeps_ncoOutput hw _).after (sameRuns_nco s _).keeps) (sameRuns_nco s _).keeps)

theorem keeps_ncoClockEdge (cks : Nat) (s : State) : KeepsRunning s (ncoClockEdge w cks s) := by
  have hadd (u : Nco) : KeepsRunning s { ncoPulseStep w s with nco := u } :=
    (sameRuns_nco _ u).keeps.after (keeps_ncoPulseStep hw s)
  exact keeps_ite (keeps_ite ((keeps_ncoOverflow hw _ _).after (hadd _)) (hadd _)) (.refl s)

theorem keeps_ncoClkSink (old new : Level) (s : State) : KeepsRunning s (ncoClkSink w old new s) :=
  keeps_ite (keeps_ncoClockEdge hw _ s) (.refl s)

theorem keeps_clcEvaluate (n : ClcId) (s : State) : KeepsRunning s (clcEvaluate w n s) := by
  unfold clcEvaluate
  dsimp only
  generalize clcCompute (s.clc n) = r
  have hstored : SameRuns s (s.setClc n r.2) := sameRuns_setClc s n _
  have hdriven : KeepsRunning s
      (driveSource w (.clc n) ((s.setClc n r.2).setClc n { r.2 with out := r.1 })) :=
    (keeps_driveWhere hw _ _).after ((sameRuns_setClc _ n _).after hstored).keeps
  have hpublished (b : Bool) (v : Nat) (t : State) (ht : KeepsRunning s t) :
      KeepsRunning s (w (.publish .clcOut (n.idx + 1) v) (if b then raiseIF (.clc n) t else t)) :=
    (hw _ _).after (keeps_ite ((sameRuns_raiseIF _ _).keeps.after ht) ht)
  exact keeps_ite hstored.keeps (keeps_ite ((keeps_ncoClockEdge hw _ _).after (hpublished _ _ _ hdriven))
    (hpublished _ _ _ hdriven))

theorem keeps_clcInput (n : ClcId) (y : Fin 4) (l : Level) (s : State) : KeepsRunning s (clcInput w n y l s) :=
  (keeps_clcEvaluate hw _ _).after (sameRuns_setClc s n _).keeps

theorem keeps_clcSink (n : ClcId) (y : Fin 4) (p : PinIx) (l : Level) (s : State) :
    KeepsRunning s (clcSink w n y p l s) := keeps_ite (keeps_clcInput hw _ _ _ s) (.refl s)

theorem keeps_clcRecv (n : ClcId) (y : Fin 4) (k : ChanKind) (sub v : Nat) (s : State) :
    KeepsRunning s (clcRecv w n y k sub v s) :=
  keeps_ite (keeps_ite ((keeps_clcInput hw _ _ _ _).after (keeps_clcInput hw _ _ _ s)) (keeps_clcInput hw _ _ _ s))
    (.refl s)

theorem keeps_sinkNotify (k : SinkId) (p : PinIx) (old new : Level) (s : State) :
    KeepsRunning s (sinkNotify w k p old new s) := by
  cases k with
  | t0cki => exact keeps_t0Edge hw _ _ s
  | t1cki => exact keeps_t1Edge hw _ _ _ s
  | t1osi => exact keeps_t1Edge hw _ _ _ s
  | t1g => exact keeps_t1GateSink _ _ s
  | ccpIn i => exact (sameRuns_captureSink _ _ _ s).keeps
  | clcIn n y => exact keeps_clcSink hw _ _ _ _ s
  | ncoclk => exact keeps_ncoClkSink hw _ _ s
  | ccpShut i => exact keeps_asSink hw _ _ _ s
  | tRst x => exact keeps_t2RstSink _ _ _ s

theorem keeps_deliver (r : RecvId) (k : ChanKind) (sub v : Nat) (s : State) :
    KeepsRunning s (deliver w r k sub v s) := by
  cases r with
  | host j => exact (sameRuns_emit _ s).keeps
  | t1Gate => exact keeps_t1GateRecv _ _ _ s
  | tRst x => exact keeps_t2RstRecv _ _ _ _ s
  | ccpAs i => exact keeps_asRecv hw _ _ _ _ s
  | clcIn n y => exact keeps_clcRecv hw _ _ _ _ _ s

end

/-- The nesting depths are no business of a timer's run (R26). -/
theorem keeps_pinDriveWith {notify : SinkId → PinIx → Level → Level → State → State}
    (hn : ∀ k p o n s, KeepsRunning s (notify k p o n s)) (p : PinIx) (s : State) :
    KeepsRunning s (pinDriveWith notify p s) := by
  have hafter (u : State) (d : Nat) : SameRuns u { u with pinDepth := d } := ⟨rfl, rfl, fun _ => rfl⟩
  refine keeps_ite (.refl s) (keeps_ite (sameRuns_raiseFault _ s).keeps ?_)
  exact (hafter _ _).keeps.after ((keeps_foldl _ _ (fun u k => hn k _ _ _ u) _).after
    (SameRuns.keeps ⟨rfl, rfl, fun _ => rfl⟩))

theorem keeps_publishWith {dlv : RecvId → ChanKind → Nat → Nat → State → State}
    (hd : ∀ r k b v s, KeepsRunning s (dlv r k b v s)) (k : ChanKind) (sub v : Nat) (s : State) :
    KeepsRunning s (publishWith dlv k sub v s) := by
  have hdepth (u : State) (d : Nat) : SameRuns u { u with busDepth := d } := ⟨rfl, rfl, fun _ => rfl⟩
  exact keeps_ite (sameRuns_raiseFault _ s).keeps ((hdepth _ _).keeps.after
    ((keeps_foldl _ _ (fun u r => keeps_ite (hd r _ _ _ u) (.refl u)) _).after (hdepth s _).keeps))

theorem keeps_wire (fuel : Nat) (x : Signal) (s : State) : KeepsRunning s (wire fuel x s) := by
  induction fuel generalizing x s with
  | zero => exact (sameRuns_raiseFault _ s).keeps
  | succ n ih =>
    cases x with
    | drive p => exact keeps_pinDriveWith (keeps_sinkNotify ih) p s
    | publish k sub v => exact keeps_publishWith (keeps_deliver ih) k sub v s

theorem keeps_signal (x : Signal) (s : State) : KeepsRunning s (signal x s) := keeps_wire _ x s

/-! ### Register writes -/

theorem keeps_writeTmr0 (v : Byte) {s : State} : KeepsRunning s (writeTmr0 v s) := by
  intro hs
  have hrun : s.t0.run = t0RunCond s := (running_iff.1 hs).1
  unfold writeTmr0
  split
  next h => exact keeps_of_run0 (by rw [run0_t0Start, ← hrun, h]) (sameButT0_t0Start v s) hs
  next h => exact SameRuns.keeps (s := s) ⟨rfl, rfl, fun _ => rfl⟩ hs

theorem keeps_writeT0con (v : Byte) (s : State) : KeepsRunning s (writeT0con v s) :=
  keeps_ite (.refl s) (keeps_t0Write _ (sameButT0_t0 s _))

theorem keeps_writeTmr1 (v : Half) (s : State) : KeepsRunning s (writeTmr1 v s) :=
  keeps_ite (keeps_t1Update _ (sameButT1_t1 s _)) (keeps_t1Update _ (SameRuns.refl s).butT1)

/-- The clock select and ON of T1CON stand where the write rule only stores the byte (R223). -/
theorem keeps_writeT1con (v : Byte) (s : State) : KeepsRunning s (writeT1con v s) := by
  unfold writeT1con
  dsimp only
  split
  next h =>
    obtain ⟨hcs, -, hon⟩ := h
    refine SameRuns.keeps ⟨rfl, congrArg (Prod.mk s.t1.run) ?_, fun _ => rfl⟩
    show (t1On v && t1Internal v && t1GateOk s && !s.sleeping) = t1RunCond s
    rw [hon, t1Internal, hcs]
    rfl
  next => exact keeps_ite (keeps_t1Update _ (sameButT1_t1 s _)) (keeps_t1Update _ (sameButT1_t1 s _))

theorem keeps_writeT1gcon (v : Byte) (s : State) : KeepsRunning s (writeT1gcon v s) := by
  obtain ⟨tff, l, h⟩ := writeT1gcon_eq v s
  rw [h]
  exact keeps_t1Update _ ((sameButT1_t1 _ _).after (sameRuns_subscribe s _ _ _).butT1)

theorem keeps_writePr (x : T2Id) (v : Byte) (s : State) : KeepsRunning s (writePr x v s) :=
  ((sameRuns_t2Recompute x _).after sameRuns_setTm).keeps

theorem keeps_t2ArmedUpdate {x : T2Id} {s t : State} (v : Byte) (h : SameButT2 x s t) :
    KeepsRunning s (t2Update x (t2ResetCount x v (t2ArmLevel x t)) (t2ArmLevel x t)) :=
  keeps_t2Update _ ((sameButT2_t2ArmLevel x t).after h)

theorem keeps_writeTcon (x : T2Id) (v : Byte) (s : State) : KeepsRunning s (writeTcon x v s) :=
  keeps_ite (.refl s) (keeps_ite (keeps_t2Update _ (sameButT2_setTm s x _))
    (keeps_t2ArmedUpdate _ (sameButT2_t2Resubscribe x _ s _)))

theorem keeps_writeTclkcon (x : T2Id) (v : Byte) (s : State) : KeepsRunning s (writeTclkcon x v s) :=
  keeps_ite (.refl s) (keeps_t2Update _ (sameButT2_setTm s x _))

theorem keeps_t2AfterSelect (x : T2Id) (t u : Timer2) (v : Byte) (s : State) :
    KeepsRunning s (t2AfterSelect x t v (s.setTm x u)) :=
  keeps_ite (keeps_t2Update _ (sameButT2_t2Resubscribe x _ s u))
    (keeps_t2ArmedUpdate _ (sameButT2_t2Resubscribe x _ s u))

theorem keeps_writeThlt (x : T2Id) (v : Byte) (s : State) : KeepsRunning s (writeThlt x v s) :=
  keeps_t2AfterSelect x _ _ _ s

theorem keeps_writeTrst (x : T2Id) (v : Byte) (s : State) : KeepsRunning s (writeTrst x v s) :=
  keeps_t2AfterSelect x _ _ _ s

theorem keeps_t2Reratio (x : T2Id) (s : State) : KeepsRunning s (t2Reratio x s) :=
  keeps_ite (keeps_t2Update _ (SameRuns.refl s).butT2) (.refl s)

theorem keeps_t2ReratioAll (s : State) : KeepsRunning s (t2ReratioAll s) :=
  (keeps_t2Reratio _ _).after ((keeps_t2Reratio _ _).after (keeps_t2Reratio _ s))

theorem keeps_t2ReratioIfStale (x : T2Id) (s : State) : KeepsRunning s (t2ReratioIfStale x s) :=
  keeps_ite (.refl s) (keeps_t2Reratio x s)

theorem keeps_t2ReratioStale (s : State) : KeepsRunning s (t2ReratioStale s) :=
  (keeps_t2ReratioIfStale _ _).after ((keeps_t2ReratioIfStale _ _).after (keeps_t2ReratioIfStale _ s))

theorem keeps_republish (f : Rat) (s : State) : KeepsRunning s (republish signal f s) :=
  keeps_ite (.refl s) ((keeps_t2ReratioAll _).after ((keeps_signal _ _).after
    ((sameRuns_emit _ _).after (sameRuns_osc s _)).keeps))

theorem sameRuns_startSettle (s : State) : SameRuns s (startSettle s) :=
  (sameRuns_reschedule _ _ _).after (sameRuns_osc s _)

theorem keeps_startOst (src : ExtSrc) (b : Bool) (s : State) : KeepsRunning s (startOst signal src b s) := by
  have hstarted : SameRuns s (reschedule .oscOst (s.cycle + s.cfg.ostCycles)
      { s with osc := { s.osc with state := .ost, target := some src } }) :=
    (sameRuns_reschedule _ _ _).after (sameRuns_osc s _)
  exact keeps_ite ((keeps_republish _ _).after (sameRuns_ite hstarted ((sameRuns_startSettle _).after hstarted)).keeps)
    ((keeps_republish _ _).after ((sameRuns_cancel _ _).after hstarted).keeps)

theorem keeps_startInternal (s : State) : KeepsRunning s (startInternal signal s) :=
  (keeps_republish _ _).after ((sameRuns_startSettle _).after (sameRuns_osc s _)).keeps

theorem keeps_oscDerive (s : State) : KeepsRunning s (oscDerive signal s) := by
  have hint : SameRuns s (updateFInt (cancel .oscOst (cancel .oscSettle s))) :=
    (sameRuns_osc _ _).after ((sameRuns_cancel _ _).after (sameRuns_cancel _ s))
  unfold oscDerive
  dsimp only
  refine (keeps_t2ReratioStale _).after ?_
  split
  · exact (keeps_startInternal _).after hint.keeps
  · exact (keeps_startOst _ _ _).after ((sameRuns_osc _ _).after hint).keeps

theorem keeps_writeOsc (con tune : Byte) (s : State) : KeepsRunning s (writeOsc signal con tune s) := by
  have hstored := sameRuns_osc s { s.osc with con := con, tune := tune }
  have hint : SameRuns s (updateFInt { s with osc := { s.osc with con := con, tune := tune } }) :=
    (sameRuns_osc _ _).after hstored
  unfold writeOsc
  dsimp only
  refine (keeps_t2ReratioStale _).after ?_
  split
  · exact keeps_ite hstored.keeps (keeps_ite ((keeps_republish _ _).after hint.keeps) hint.keeps)
  · split
    · exact (keeps_startInternal _).after ((sameRuns_cancel _ _).after hint).keeps
    · exact keeps_ite hint.keeps ((keeps_startOst _ _ _).after hint.keeps)

theorem sameRuns_ccpLeave (i : CcpId) (s : State) : SameRuns s (ccpLeave i s) := by
  have hcmp (l : List (CcpId × Half)) : SameRuns s { s with t1 := { s.t1 with cmp := l } } := ⟨rfl, rfl, fun _ => rfl⟩
  exact sameRuns_ite ((sameRuns_cancel _ _).after ((sameRuns_t1Recompute _).after (hcmp _)))
    (sameRuns_ite ((sameRuns_t2Recompute _ _).after ((sameRuns_setCcp _ i _).after ((sameRuns_cancel _ _).after
      ((sameRuns_setCcp _ i _).after sameRuns_setTm)))) (.refl s))

theorem sameRuns_ccpEnter (i : CcpId) (s : State) : SameRuns s (ccpEnter i s) := by
  have hcmp (u : State) (l : List (CcpId × Half)) : SameRuns u { u with t1 := { u.t1 with cmp := l } } :=
    ⟨rfl, rfl, fun _ => rfl⟩
  have hlevel := sameRuns_ite (p := ccpMode (s.ccp i) = 9) (sameRuns_setOutput i 0 .H s)
    (sameRuns_ite (p := comparesDrive (ccpMode (s.ccp i)) = true) (sameRuns_setOutput i 0 .L s) (.refl s))
  exact sameRuns_ite (sameRuns_setCcp s i _) (sameRuns_ite ((sameRuns_t1Recompute _).after ((hcmp _ _).after hlevel))
    (sameRuns_ite ((sameRuns_t2Recompute _ _).after (SameRuns.after sameRuns_setTm (sameRuns_setCcp s i _))) (.refl s)))

theorem keeps_writeCcpMode (i : CcpId) (con tsel : Byte) (s : State) :
    KeepsRunning s (writeCcpMode signal i con tsel s) :=
  keeps_ite (sameRuns_setCcp s i _).keeps ((keeps_refresh keeps_signal _ _).after
    ((sameRuns_ccpEnter i _).after ((sameRuns_setCcp _ i _).after (sameRuns_ccpLeave i s))).keeps)

theorem sameRuns_ccprWritten (i : CcpId) (s : State) : SameRuns s (ccprWritten i s) :=
  sameRuns_ite ((sameRuns_t1Recompute _).after ⟨rfl, rfl, fun _ => rfl⟩) (.refl s)

theorem sameRuns_writeCcprl (i : CcpId) (v : Byte) (s : State) : SameRuns s (writeCcprl i v s) :=
  (sameRuns_ccprWritten i _).after (sameRuns_setCcp s i _)

theorem sameRuns_writeCcprh (i : CcpId) (v : Byte) (s : State) : SameRuns s (writeCcprh i v s) :=
  (sameRuns_ccprWritten i _).after (sameRuns_setCcp s i _)

theorem keeps_writeCcpas (i : CcpId) (v : Byte) (s : State) : KeepsRunning s (writeCcpas signal i v s) := by
  have hstored : SameRuns s (asStored i v s) := (sameRuns_setCcp _ i _).after (sameRuns_subscribe s _ _ _)
  have hsettle (off : Bool) (u : State) : SameRuns u (settleShutdown i off u) :=
    sameRuns_ite (sameRuns_ite (.refl u) (sameRuns_shutdownCcp i u)) (sameRuns_setCcp u i _)
  rw [writeCcpas_eq]
  exact (keeps_refresh keeps_signal _ _).after ((sameRuns_storeAse _ _).after ((hsettle _ _).after hstored)).keeps

theorem keeps_driveControl (c : CtlId) (s : State) : KeepsRunning s (driveControl signal c s) :=
  keeps_driveWhere keeps_signal _ s

theorem sameRuns_ncoRecompute (s : State) : SameRuns s (ncoRecompute s) :=
  sameRuns_ite (sameRuns_reschedule _ _ s) (sameRuns_cancel _ s)

theorem sameRuns_ncoReanchor (s : State) : SameRuns s (ncoReanchor s) := sameRuns_ite (sameRuns_nco s _) (.refl s)

theorem sameRuns_ncoSync (s : State) : SameRuns s (ncoSync s) := sameRuns_ite (sameRuns_nco s _) (.refl s)

theorem sameRuns_ncoStored (store : Nco → Nco) (s : State) : SameRuns s (ncoStored store s) :=
  (sameRuns_ncoReanchor _).after ((sameRuns_ite ((sameRuns_cancel _ _).after (sameRuns_nco _ _)) (.refl _)).after
    ((sameRuns_nco _ _).after (sameRuns_ncoSync s)))

theorem keeps_writeNco (store : Nco → Nco) (s : State) : KeepsRunning s (writeNco signal store s) := by
  have hout : KeepsRunning s (ncoOutput signal (ncoRecompute (ncoStored store s))) :=
    (keeps_ncoOutput keeps_signal _).after ((sameRuns_ncoRecompute _).after (sameRuns_ncoStored store s)).keeps
  exact keeps_ite hout ((keeps_driveControl _ _).after hout)

theorem sameRuns_resubscribe (k : SinkId) (r : RecvId) (want : Option SigDesc) (s : State) :
    SameRuns s (resubscribe k r want s) := by
  rw [resubscribe_eq]
  exact sameRuns_wiring s _ _

theorem sameRuns_raiseIfRefused (want : Option SigDesc) (s : State) : SameRuns s (raiseIfRefused want s) :=
  sameRuns_ite (sameRuns_raiseFault _ s) (.refl s)

theorem keeps_clcResubscribe (n : ClcId) (old : Clc) (s : State) : KeepsRunning s (clcResubscribe n old s) := by
  refine keeps_foldl _ _ (fun u y => ?_) s
  have hheld (want : Option SigDesc) := sameRuns_resubscribe (.clcIn n y) (.clcIn n y) want u
  refine keeps_ite (hheld _).keeps ?_
  split
  · exact ((sameRuns_raiseIfRefused _ _).after ((sameRuns_setClc _ n _).after (hheld _))).keeps
  · exact (hheld _).keeps

theorem keeps_writeClc (n : ClcId) (store : Clc → Clc) (s : State) : KeepsRunning s (writeClc signal n store s) := by
  have hheld (c : Clc) : KeepsRunning s (clcResubscribe n (s.clc n) (s.setClc n c)) :=
    (keeps_clcResubscribe n _ _).after (sameRuns_setClc s n c).keeps
  exact (keeps_clcEvaluate keeps_signal _ _).after (keeps_ite (hheld _) ((keeps_driveControl _ _).after (hheld _)))

theorem sameRuns_writeAdcon0 (v : Byte) (s : State) : SameRuns s (writeAdcon0 v s) := by
  have hstored := sameRuns_adc s { s.adc with con0 := v }
  have hstarted : SameRuns s (if (adGo v && !adGo s.adc.con0) = true then
      adcStart (setGo false { s with adc := { s.adc with con0 := v } })
    else { s with adc := { s.adc with con0 := v } }) :=
    sameRuns_ite ((sameRuns_adcStart _).after ((sameRuns_adc _ _).after hstored)) hstored
  have habort (u : State) : SameRuns u (adcAbort u) :=
    (sameRuns_adc _ _).after ((sameRuns_adc _ _).after (sameRuns_cancel _ u))
  exact sameRuns_ite ((habort _).after hstarted) hstarted

theorem keeps_writePwmcon (i : CcpId) (v : Byte) (s : State) : KeepsRunning s (writePwmcon signal i v s) :=
  (keeps_refresh keeps_signal i _).after (sameRuns_setCcp s i _).keeps

theorem keeps_writeCcppol (i : CcpId) (v : Byte) (s : State) : KeepsRunning s (writeCcppol signal i v s) :=
  (keeps_refresh keeps_signal i _).after (sameRuns_setCcp s i _).keeps

/-- Every PUT keeps the timers running by their conditions. -/
theorem keeps_regPut (r : Reg) (v : Byte) (s : State) : KeepsRunning s (regPut r v s) := by
  unfold regPut
  generalize putByte r v s = new
  unfold onWrite
  cases r with
  | cycle k => exact .refl s
  | fault => exact .refl s
  | oscstat => exact .refl s
  | tmr0 => exact keeps_writeTmr0 _
  | t0con => exact keeps_writeT0con _ s
  | t0stat => exact (sameRuns_setFlag .tmr0 _ s).keeps
  | tmr1l => exact keeps_writeTmr1 _ s
  | tmr1h => exact keeps_writeTmr1 _ s
  | t1con => exact keeps_writeT1con _ s
  | t1gcon => exact keeps_writeT1gcon _ s
  | t1stat => exact (sameRuns_setFlag .tmr1 _ s).keeps
  | tmr x => exact keeps_t2Update _ (SameRuns.refl s).butT2
  | pr x => exact keeps_writePr x _ s
  | tcon x => exact keeps_writeTcon x _ s
  | thlt x => exact keeps_writeThlt x _ s
  | tclkcon x => exact keeps_writeTclkcon x _ s
  | trst x => exact keeps_writeTrst x _ s
  | tstat x => exact (sameRuns_setFlag (.tmrx x) _ s).keeps
  | ccprl i => exact (sameRuns_writeCcprl i _ s).keeps
  | ccprh i => exact (sameRuns_writeCcprh i _ s).keeps
  | ccpcon i => exact keeps_writeCcpMode i new (s.ccp i).tsel s
  | ccptsel i => exact keeps_writeCcpMode i (s.ccp i).con new s
  | pwmcon i => exact keeps_writePwmcon i _ s
  | ccpas i => exact keeps_writeCcpas i _ s
  | ccpstat i => exact (sameRuns_setFlag (.ccp i) _ s).keeps
  | ccppol i => exact keeps_writeCcppol i _ s
  | osccon => exact keeps_writeOsc new s.osc.tune s
  | osctune => exact keeps_writeOsc s.osc.con new s
  | clccon n => exact keeps_writeClc n (storeClccon new) s
  | clcpol n => exact keeps_writeClc n (storeClcpol new) s
  | clcsel n y => exact keeps_writeClc n (storeClcsel y new) s
  | clcgls n k => exact keeps_writeClc n (storeClcgls k new) s
  | clcstat n => exact (sameRuns_setFlag (.clc n) _ s).keeps
  | ncoaccl => exact keeps_writeNco (storeAccl new) s
  | ncoacch => exact keeps_writeNco (storeAcch new) s
  | ncoaccu => exact keeps_writeNco (storeAccu new) s
  | ncoincl => exact keeps_writeNco (storeIncl new) s
  | ncoinch => exact keeps_writeNco (storeInch new) s
  | ncocon => exact keeps_writeNco (storeNcocon new) s
  | ncoclk => exact keeps_writeNco (storeNcoclk new) s
  | ncostat => exact (sameRuns_setFlag .nco _ s).keeps
  | adresl => exact (sameRuns_adc s _).keeps
  | adresh => exact (sameRuns_adc s _).keeps
  | adcon0 => exact (sameRuns_writeAdcon0 _ s).keeps
  | adcon1 => exact (sameRuns_adc s _).keeps
  | adacq => exact (sameRuns_adc s _).keeps
  | adstat => exact (sameRuns_setFlag .adc _ s).keeps

/-! ### Callbacks and the firing loop -/

theorem keeps_t0OvfCallback (s : State) : KeepsRunning s (t0OvfCallback signal s) := by
  have hanchor (a : Int) : SameRuns s { s with t0 := { s.t0 with anchor := a } } := ⟨rfl, rfl, fun _ => rfl⟩
  unfold t0OvfCallback
  refine (keeps_signal _ _).after (SameRuns.keeps ?_)
  exact (sameRuns_raiseIF _ _).after ((sameRuns_schedule _ _ _).after (hanchor _))

theorem keeps_t1BrkCallback (s : State) : KeepsRunning s (t1BrkCallback signal s) :=
  (sameRuns_t1Recompute _).keeps.after ((keeps_foldl _ _ (fun u _ =>
    keeps_ite (keeps_compareMatch keeps_signal _ u) (.refl u)) _).after
      (keeps_ite (keeps_t1Rollover keeps_signal s) (.refl s)))

/-- Disarming stops a timer or leaves it: a condition that holds without `tx_armed` holds with it (R240). -/
theorem hltCounts_of_disarmed {m : HltPolicy} {on armed : Bool} {ers : Level} (h : hltCounts m on false ers = true) :
    hltCounts m on armed ers = true := by
  simp only [hltCounts, Bool.and_eq_true, Bool.or_eq_true, Bool.or_false] at h ⊢
  tauto

theorem sameButT2_t2EndRun (x : T2Id) (s : State) : SameButT2 x s (t2EndRun x s) := by
  unfold t2EndRun
  dsimp only
  split
  · exact (SameRuns.refl s).butT2
  · split
    · exact sameButT2_t2Resubscribe x _ s _
    · exact sameButT2_setTm s x _

/-- After the end of a run the timer runs only if it did, and its condition holds only if it did (R241). -/
theorem t2EndRun_run (x : T2Id) (s : State) :
    ((t2EndRun x s).tm x).run = (s.tm x).run ∧ (t2RunCond (t2EndRun x s) x = true → t2RunCond s x = true) := by
  unfold t2EndRun
  dsimp only
  split
  · exact ⟨rfl, id⟩
  · split
    · rw [t2Resubscribe_setTm]
      refine ⟨by rw [setTm_tm_same], fun h => ?_⟩
      have hoff (b : Byte) : t2On (setBit b 7 false) = false := by
        simp [t2On, setBit, bit]
      simp [t2RunCond, hltCounts, hoff] at h
    · refine ⟨by rw [setTm_tm_same], fun h => ?_⟩
      simp only [t2RunCond, setTm_tm_same, setTm_cfg, setTm_sleeping, Bool.and_eq_true] at h ⊢
      exact ⟨⟨hltCounts_of_disarmed h.1.1, h.1.2⟩, h.2⟩

/-- The end of a run and the stop where the condition then fails (R241). -/
theorem keeps_t2RunAfter_t2EndRun (x : T2Id) (s : State) : KeepsRunning s (t2RunAfter x (t2EndRun x s)) := by
  intro hs
  obtain ⟨hrun, hcond⟩ := t2EndRun_run x s
  have hx : (s.run2 x).1 = (s.run2 x).2 := (running_iff.1 hs).2.2 x
  have hbut : SameButT2 x s (t2RunAfter x (t2EndRun x s)) := by
    unfold t2RunAfter
    split
    · exact sameButT2_t2EndRun x s
    · exact (sameButT2_setTm _ x _).after (sameButT2_t2EndRun x s)
  have hown : ((t2RunAfter x (t2EndRun x s)).run2 x).1 = ((t2RunAfter x (t2EndRun x s)).run2 x).2 := by
    unfold t2RunAfter
    split
    next h => exact hrun.trans ((hx.trans (hcond h)).trans h.symm)
    next h =>
      simp only [State.run2, t2RunCond, setTm_tm_same, setTm_cfg, setTm_sleeping]
      exact (Bool.eq_false_iff.2 h).symm
  rw [running_iff] at *
  obtain ⟨hs0, hs1, hs2⟩ := hs
  refine ⟨hbut.t0 ▸ hs0, hbut.t1 ▸ hs1, fun y => ?_⟩
  by_cases hy : y = x
  · rw [hy, hown]
  · rw [hbut.t2 y hy]
    exact hs2 y

theorem keeps_periodStart (i : CcpId) (s : State) : KeepsRunning s (periodStart signal i s) := by
  have hset (m : Level) (u : Ccp) : KeepsRunning s (setMod signal i m (s.setCcp i u)) :=
    (keeps_setMod keeps_signal i m _).after (sameRuns_setCcp s i u).keeps
  exact keeps_ite (.refl s) (keeps_ite (hset _ _) (keeps_ite (hset _ _) (hset _ _)))

theorem keeps_t2Period (x : T2Id) (s : State) : KeepsRunning s (t2Period signal x s) := by
  have hpost (u : State) : SameRuns u (t2Postscale x u) :=
    sameRuns_ite ((sameRuns_raiseIF _ _).after sameRuns_setTm) sameRuns_setTm
  exact (keeps_foldl _ _ (fun u i => keeps_periodStart i u) _).after ((keeps_t2RunAfter_t2EndRun x _).after
    ((hpost _).keeps.after ((keeps_signal _ _).after (SameRuns.keeps sameRuns_setTm))))

theorem keeps_t2BrkCallback (x : T2Id) (s : State) : KeepsRunning s (t2BrkCallback signal x s) := by
  have hduty (i : CcpId) (u : State) : KeepsRunning u (dutyMatch signal i u) :=
    (keeps_setMod keeps_signal i .L _).after (sameRuns_setCcp u i _).keeps
  have hduties : KeepsRunning s ((s.tm x).pwm.foldl
      (fun u i => if maskHas (s.tm x).breakMask (dutyBit i) then dutyMatch signal i u else u) s) :=
    keeps_foldl _ _ (fun u i => keeps_ite (hduty i u) (.refl u)) s
  have hwrap (c : Bool) (u : State) : KeepsRunning u (if c then t2Advance x 256 u else u) :=
    keeps_ite (SameRuns.keeps sameRuns_setTm) (.refl u)
  have hperiod (c : Bool) (u : State) : KeepsRunning u (if c then t2Period signal x u else u) :=
    keeps_ite (keeps_t2Period x u) (.refl u)
  exact keeps_ite ((sameRuns_t2Place _ _ _).keeps.after hduties)
    ((sameRuns_t2Recompute _ _).keeps.after ((hperiod _ _).after ((hwrap _ _).after hduties)))

theorem keeps_ccpDbCallback (i : CcpId) (s : State) : KeepsRunning s (ccpDbCallback signal i s) := by
  unfold ccpDbCallback
  dsimp only
  split
  · exact keeps_ite ((keeps_refresh keeps_signal i _).after (sameRuns_setCcp s i _).keeps) (sameRuns_setCcp s i _).keeps
  · exact (sameRuns_setCcp s i _).keeps

theorem keeps_ccpPulseCallback (i : CcpId) (s : State) : KeepsRunning s (ccpPulseCallback signal i s) :=
  keeps_ite ((keeps_refresh keeps_signal i _).after (sameRuns_setOutput i 0 .L s).keeps) (.refl s)

theorem keeps_oscOstCallback (s : State) : KeepsRunning s (oscOstCallback signal s) := by
  unfold oscOstCallback
  split
  · split
    · exact (keeps_republish _ _).after (sameRuns_osc s _).keeps
    · exact .refl s
  · exact .refl s

theorem keeps_ncoOvfCallback (s : State) : KeepsRunning s (ncoOvfCallback signal s) :=
  (sameRuns_ncoRecompute _).keeps.after ((keeps_ncoOverflow keeps_signal _ _).after (sameRuns_nco s _).keeps)

theorem keeps_adcSeqCallback (s : State) : KeepsRunning s (adcSeqCallback signal s) := by
  have hquantize : SameRuns s (quantize s).2 := by
    unfold quantize
    split
    · exact sameRuns_emit _ s
    · exact .refl s
  unfold adcSeqCallback
  split
  · exact .refl s
  · exact ((sameRuns_reschedule _ _ _).after (sameRuns_adc s _)).keeps
  · exact (keeps_signal _ _).after ((sameRuns_raiseIF _ _).after ((sameRuns_adc _ _).after ((sameRuns_adc _ _).after
      ((sameRuns_adc _ _).after hquantize)))).keeps

/-- Every callback keeps the timers running by their conditions (R138). -/
theorem keeps_callback (t : TrigId) (s : State) : KeepsRunning s (callback t s) := by
  cases t with
  | t0Ovf => exact keeps_t0OvfCallback s
  | t1Brk => exact keeps_t1BrkCallback s
  | tBrk x => exact keeps_t2BrkCallback x s
  | ccpDb i => exact keeps_ccpDbCallback i s
  | ccpPulse i => exact keeps_ccpPulseCallback i s
  | oscSettle => exact (sameRuns_ite (sameRuns_osc s _) (.refl s)).keeps
  | oscOst => exact keeps_oscOstCallback s
  | ncoOvf => exact keeps_ncoOvfCallback s
  | ncoPulse => exact keeps_ite ((keeps_ncoOutput keeps_signal _).after (sameRuns_nco s _).keeps) (.refl s)
  | adcSeq => exact keeps_adcSeqCallback s
  | ext j => exact (sameRuns_emit _ s).keeps

/-- The firing loop keeps them so (R136). -/
theorem keeps_advanceLoop (n : Nat) {s t : State} (h : advanceLoop n s = some t) : KeepsRunning s t := by
  induction n generalizing s with
  | zero =>
    unfold advanceLoop at h
    split at h
    · cases h; exact .refl _
    · cases h
  | succ n ih =>
    unfold advanceLoop at h
    split at h
    · cases h; exact .refl _
    · rename_i e rest _
      have hbefore : SameRuns s { s with queue := rest, firing := some (e.trig, e.cycle) } := ⟨rfl, rfl, fun _ => rfl⟩
      have hafter (u : State) : SameRuns u { u with firing := none } := ⟨rfl, rfl, fun _ => rfl⟩
      exact (ih h).after ((hafter _).keeps.after ((keeps_callback _ _).after hbefore.keeps))

theorem keeps_advance (s : State) : Ensures (KeepsRunning s) (advance s) := fun _ h =>
  let ⟨n, hn⟩ := advance_next_iff.1 h
  keeps_advanceLoop n hn

/-! ### Sleep and wake -/

/-- The three timers of the family restarted in order: each by its own turn, which leaves the other timers. -/
theorem runs_of_each_t2 {f : T2Id → State → State} {Q : T2Id → Bool × Bool → Prop}
    (hf : ∀ x s, SameButT2 x s (f x s)) (hq : ∀ x s, Q x (s.run2 x) → ((f x s).run2 x).1 = ((f x s).run2 x).2)
    {s : State} (hs : ∀ x, Q x (s.run2 x)) :
    (f .t6 (f .t4 (f .t2 s))).run0 = s.run0 ∧ (f .t6 (f .t4 (f .t2 s))).run1 = s.run1 ∧
      ∀ x, ((f .t6 (f .t4 (f .t2 s))).run2 x).1 = ((f .t6 (f .t4 (f .t2 s))).run2 x).2 := by
  have h2 := hf .t2 s
  have h4 := hf .t4 (f .t2 s)
  have h6 := hf .t6 (f .t4 (f .t2 s))
  refine ⟨h6.t0.trans (h4.t0.trans h2.t0), h6.t1.trans (h4.t1.trans h2.t1), fun x => ?_⟩
  cases x with
  | t2 =>
    rw [h6.t2 .t2 nofun, h4.t2 .t2 nofun]
    exact hq _ _ (hs _)
  | t4 =>
    rw [h6.t2 .t4 nofun]
    refine hq _ _ ?_
    rw [h2.t2 .t4 nofun]
    exact hs _
  | t6 =>
    refine hq _ _ ?_
    rw [h4.t2 .t6 nofun, h2.t2 .t6 nofun]
    exact hs _

/-- A timer whose condition fails and which is stopped if it ran stands still. -/
theorem run0_sleepT0 {s : State} {ran : Bool} (v : Byte) (h : s.run0 = (ran, false)) :
    (sleepT0 ran v s).run0 = (false, false) := by
  have hcond : t0RunCond s = false := congrArg Prod.snd h
  cases ran with
  | true => exact (run0_t0Stop v s).trans (by rw [hcond])
  | false => exact h

theorem run1_sleepT1 {s : State} {ran : Bool} (v : Half) (h : s.run1 = (ran, false)) :
    (sleepT1 ran v s).run1 = (false, false) := by
  have hcond : t1RunCond s = false := congrArg Prod.snd h
  cases ran with
  | true => exact (run1_t1Update v s).trans (by rw [hcond])
  | false => exact h

theorem run2_sleepT2 {s : State} {x : T2Id} {ran : Bool} (v : Byte) (h : s.run2 x = (ran, false)) :
    (sleepT2 x ran v s).run2 x = (false, false) := by
  have hcond : t2RunCond s x = false := congrArg Prod.snd h
  cases ran with
  | true => exact (run2_t2Update x v s).trans (by rw [hcond])
  | false => exact h

theorem sameButT0_sleepT0 (ran : Bool) (v : Byte) (s : State) : SameButT0 s (sleepT0 ran v s) := by
  cases ran with
  | true => exact sameButT0_t0Stop v s
  | false => exact (SameRuns.refl s).butT0

theorem sameButT1_sleepT1 (ran : Bool) (v : Half) (s : State) : SameButT1 s (sleepT1 ran v s) := by
  cases ran with
  | true => exact sameButT1_t1Update v s
  | false => exact (SameRuns.refl s).butT1

theorem sameButT2_sleepT2 (x : T2Id) (ran : Bool) (v : Byte) (s : State) : SameButT2 x s (sleepT2 x ran v s) := by
  cases ran with
  | true => exact sameButT2_t2Update x v s
  | false => exact (SameRuns.refl s).butT2

/-- In a sleeping block no run condition holds (R210, R218, R231). -/
theorem runs_asleep (s : State) : State.run0 { s with sleeping := true } = (s.t0.run, false) ∧
    State.run1 { s with sleeping := true } = (s.t1.run, false) ∧
    ∀ x, State.run2 { s with sleeping := true } x = ((s.tm x).run, false) := by
  refine ⟨?_, ?_, fun x => ?_⟩
  · simp [State.run0, t0RunCond]
  · simp [State.run1, t1RunCond]
  · simp [State.run2, t2RunCond, State.tm]

/-- SLEEP stops every timer that runs, and no condition holds then (R455). -/
theorem goToSleep_running (s : State) : (goToSleep s).Running := by
  obtain ⟨h0, h1, h2⟩ := runs_asleep (ncoSync s)
  have hsync := sameRuns_ncoSync s
  have hran0 : (ncoSync s).t0.run = s.t0.run := congrArg Prod.fst hsync.t0
  have hran1 : (ncoSync s).t1.run = s.t1.run := congrArg Prod.fst hsync.t1
  have hran2 (x : T2Id) : ((ncoSync s).tm x).run = (s.tm x).run := congrArg Prod.fst (hsync.t2 x)
  have hT0 := sameButT0_sleepT0 s.t0.run (t0Count s) { ncoSync s with sleeping := true }
  have hT1 := sameButT1_sleepT1 s.t1.run (t1Count s) (sleepT0 s.t0.run (t0Count s) { ncoSync s with sleeping := true })
  have hstop0 := run0_sleepT0 (t0Count s) (h0.trans (by rw [hran0]))
  have hstop1 := run1_sleepT1 (t1Count s) (hT0.t1.trans (h1.trans (by rw [hran1])))
  obtain ⟨hall0, hall1, hall2⟩ := runs_of_each_t2 (f := fun x => sleepT2 x (s.tm x).run (t2Count s x))
    (Q := fun x p => p = ((s.tm x).run, false)) (fun x => sameButT2_sleepT2 x _ _)
    (fun x u hu => by rw [run2_sleepT2 _ hu])
    (s := sleepT1 s.t1.run (t1Count s) (sleepT0 s.t0.run (t0Count s) { ncoSync s with sleeping := true }))
    (fun x => by rw [hT1.t2, hT0.t2, h2, hran2])
  have hrunning : (sleepT2 .t6 s.t6.run (t2Count s .t6) (sleepT2 .t4 s.t4.run (t2Count s .t4)
      (sleepT2 .t2 s.t2.run (t2Count s .t2) (sleepT1 s.t1.run (t1Count s)
        (sleepT0 s.t0.run (t0Count s) { ncoSync s with sleeping := true }))))).Running := by
    refine running_iff.2 ⟨?_, ?_, hall2⟩
    · exact (congrArg Prod.fst (hall0.trans (hT1.t0.trans hstop0))).trans
        (congrArg Prod.snd (hall0.trans (hT1.t0.trans hstop0))).symm
    · exact (congrArg Prod.fst (hall1.trans hstop1)).trans (congrArg Prod.snd (hall1.trans hstop1)).symm
  exact keeps_ite (s := _) (sameRuns_cancel _ _).keeps (.refl _) hrunning

theorem wakeT0_run {s : State} (h : s.run0.1 = false) : (wakeT0 s).run0.1 = (wakeT0 s).run0.2 := by
  unfold wakeT0
  split
  next hc => rw [run0_t0Start, hc]
  next hc => exact h.trans (Bool.eq_false_iff.2 hc).symm

theorem wakeT1_run {s : State} (h : s.run1.1 = false) : (wakeT1 s).run1.1 = (wakeT1 s).run1.2 := by
  unfold wakeT1
  split
  next => rw [run1_t1Update]
  next hc => exact h.trans (Bool.eq_false_iff.2 hc).symm

theorem wakeT2_run {s : State} {x : T2Id} (h : (s.run2 x).1 = false) :
    ((wakeT2 x s).run2 x).1 = ((wakeT2 x s).run2 x).2 := by
  unfold wakeT2
  split
  next => rw [run2_t2Update]
  next hc => exact h.trans (Bool.eq_false_iff.2 hc).symm

theorem sameButT0_wakeT0 (s : State) : SameButT0 s (wakeT0 s) := by
  unfold wakeT0
  split
  · exact sameButT0_t0Start _ s
  · exact (SameRuns.refl s).butT0

theorem sameButT1_wakeT1 (s : State) : SameButT1 s (wakeT1 s) := by
  unfold wakeT1
  split
  · exact sameButT1_t1Update _ s
  · exact (SameRuns.refl s).butT1

theorem sameButT2_wakeT2 (x : T2Id) (s : State) : SameButT2 x s (wakeT2 x s) := by
  unfold wakeT2
  split
  · exact sameButT2_t2Update x _ s
  · exact (SameRuns.refl s).butT2

/-- WAKE starts every timer whose condition holds, from a block in which none runs (R456). -/
theorem wakeUp_running {s : State} (hsleeping : s.sleeping = true) (hs : s.Running) : (wakeUp s).Running := by
  have hself : { s with sleeping := true } = s := by rw [← hsleeping]
  obtain ⟨h0, h1, h2⟩ := runs_asleep s
  rw [hself] at h0 h1 h2
  obtain ⟨hs0, hs1, hs2⟩ := running_iff.1 hs
  rw [h0] at hs0
  rw [h1] at hs1
  have hT0 := sameButT0_wakeT0 { s with sleeping := false }
  have hT1 := sameButT1_wakeT1 (wakeT0 { s with sleeping := false })
  have hrun1 : (wakeT0 { s with sleeping := false }).run1.1 = false := (congrArg Prod.fst hT0.t1).trans hs1
  obtain ⟨hall0, hall1, hall2⟩ := runs_of_each_t2 (f := wakeT2) (Q := fun _ p => p.1 = false) sameButT2_wakeT2
    (fun _ _ => wakeT2_run) (s := wakeT1 (wakeT0 { s with sleeping := false })) fun x => by
      rw [hT1.t2, hT0.t2]
      exact (hs2 x).trans (congrArg Prod.snd (h2 x))
  have hrunning :
      (wakeT2 .t6 (wakeT2 .t4 (wakeT2 .t2 (wakeT1 (wakeT0 { s with sleeping := false }))))).Running := by
    refine running_iff.2 ⟨?_, ?_, hall2⟩
    · rw [hall0, hT1.t0]
      exact wakeT0_run hs0
    · rw [hall1]
      exact wakeT1_run hrun1
  have hnco (u : State) : SameRuns u (wakeNco u) :=
    sameRuns_ite ((sameRuns_ncoRecompute _).after (sameRuns_ncoReanchor u)) (.refl u)
  exact ((keeps_oscDerive _).after (hnco _).keeps) hrunning

/-! ### Commands -/

/-- RESET starts from blank timers, none of them on (R470). -/
theorem resetBlock_running (s : State) : (resetBlock s).Running := by
  have hbase : (resetBase s).Running := by
    refine ⟨by simp [resetBase, State.blank, Timer0.atReset, t0RunCond, t0En, bit],
      by simp [resetBase, State.blank, Timer1.atReset, t1RunCond, t1On, bit], fun x => ?_⟩
    cases x <;> simp [resetBase, State.blank, State.tm, Timer2.atReset, t2RunCond, hltCounts, t2On, bit]
  exact ((keeps_foldl _ _ (fun u _ => keeps_signal _ u) _).after (keeps_oscDerive _)) hbase

theorem keeps_setPin_drive (s : State) (p : PinIx) (m : Pin) :
    KeepsRunning s (signal (.drive p) (s.setPin p m)) :=
  (keeps_signal _ _).after (sameRuns_wiring s _ _).keeps

theorem running_execSetv (ch : AdcInput) (uv : Long) {s : State} (hs : s.Running) :
    Ensures State.Running (execSetv ch uv s) := by
  cases ch with
  | chan c => exact ensures_ite (ensures_next hs) (ensures_next hs)
  | vrefHi => exact ensures_next hs
  | vrefLo => exact ensures_next hs

/-- Every command keeps the timers running by their conditions. -/
theorem exec_running (i : Instr) {s : State} (hs : s.Running) : Ensures State.Running (exec i s) := by
  have hput (r : Reg) (v : Byte) : (regPut r v s).Running := keeps_regPut r v s hs
  cases i with
  | now => exact ensures_next hs
  | sched t c => exact ensures_ite (ensures_next ((sameRuns_schedule t _ s).keeps hs)) (ensures_next hs)
  | cancel t => exact ensures_ite (ensures_next hs) (ensures_next hs)
  | resched t c => exact ensures_ite (ensures_next ((sameRuns_reschedule t _ s).keeps hs)) (ensures_next hs)
  | advance => exact fun t h => keeps_advance s t h hs
  | step => exact ensures_ite (ensures_next hs) fun t h => keeps_advance { s with now := s.now + 1 } t h hs
  | setsrc p src => exact ensures_onPin (keeps_setPin_drive s p _ hs) hs
  | setctl p ctl => exact ensures_onPin (keeps_setPin_drive s p _ hs) hs
  | addsink p k => exact ensures_ite (ensures_onPin hs hs) (ensures_next hs)
  | rmsink p k => exact ensures_ite (ensures_onPin hs hs) (ensures_next hs)
  | updpin p => exact ensures_onPin (keeps_signal _ s hs) hs
  | drive p l => exact ensures_onPin (keeps_setPin_drive s p _ hs) hs
  | pinrd p => exact ensures_onPin hs hs
  | attach k r => exact ensures_ite (ensures_next hs) (ensures_next hs)
  | detach k r => exact ensures_ite (ensures_next hs) (ensures_next hs)
  | publish k sub v => exact ensures_next (keeps_signal _ s hs)
  | put v a => exact ensures_execPut v a s (hput · v) fun _ => hs
  | get a => exact ensures_execGet a s (fun _ => hs) fun _ => hs
  | getv a => exact ensures_execGet a s (fun _ => hs) fun _ => hs
  | setv ch uv => exact running_execSetv ch uv hs
  | getfreq => exact ensures_next hs
  | sleep => exact ensures_ite (ensures_next hs) (ensures_next (goToSleep_running s))
  | wake =>
    show Ensures State.Running (if s.sleeping then .next (wakeUp s) else .next s)
    split
    next h => exact ensures_next (wakeUp_running h hs)
    next => exact ensures_next hs
  | reset => exact ensures_next (resetBlock_running s)
  | _ v => exact ensures_next (hput _ v)

/-- Settles O50, by `exec_running`: the queue of commands has no part in a run condition. -/
theorem stepKeepsRunning : Obligations.StepKeepsRunning :=
  fun _ t hs => step_keeps hs (fun _ => hs) (fun i _ => exec_running i hs) t

end Sys2Proof.Machine
end

section
/-!
Proofs of the statements of 42_timers.md about Timer0: PUT TMR0 and T0CON (R211, R213, R214, R217), its overflow (R215),
and the edges of T0CKI (R216).
-/

namespace Sys2Proof.Machine

open Sys2Proof

/-! ### A cell writable in every bit -/

/-- A cell that is writable in every bit hands its write rule the written byte, whatever it reads (R160). -/
theorem regPut_all {r : Reg} (hmask : wmask r = BitVec.allOnes 8) (v : Byte) (s : State) :
    regPut r v s = onWrite signal r v s := by
  have hput : putByte r v s = v := by
    have h := maskMerge_and (BitVec.allOnes 8) (readReg r s) v
    rwa [BitVec.and_allOnes, BitVec.and_allOnes, ← hmask] at h
  rw [regPut, hput]

/-- What a reschedule leaves in the queue. -/
theorem reschedule_next (t : TrigId) (c : Nat) (s : State) : ∃ q,
    reschedule t c s = { s with queue := q, seq := s.seq + 1 } ∧
      ∀ e, e ∈ q ↔ (e ∈ s.queue ∧ e.trig ≠ t) ∨ e = ⟨c, s.seq, t⟩ :=
  ⟨_, reschedule_with t c s, fun e => (mem_insertEvent _ _ _).trans (by simp [or_comm])⟩

/-! ### Timer0 restarted and stopped -/

theorem t0Div_pos (con : Byte) : 0 < t0Div con := by
  unfold t0Div
  split
  · exact Nat.one_pos
  · exact Nat.two_pow_pos _

/-- Timer0 restarted at this cycle with the count `v` (R213, R214). -/
def t0Restarted (v : Byte) (s : State) : State := { s with
  t0 := { s.t0 with
    run := true, anchor := (s.now.toNat : Int) - (v.toNat : Int) * (t0Div s.t0.con : Int) } }

theorem t0Abs_restarted (v : Byte) (s : State) : t0Abs (t0Restarted v s) = v.toNat :=
  ediv_anchor _ _ _ (t0Div_pos s.t0.con)

/-- The overflow of a restarted Timer0 is `256 - v` counts on (R211). -/
theorem t0NextOvf_restarted (v : Byte) (s : State) :
    (t0NextOvf (t0Restarted v s)).toNat = s.now.toNat + (256 - v.toNat) * t0Div s.t0.con := by
  have hv : v.toNat ≤ 256 := by omega
  have hperiod : ((v.toNat : Int) / 256 + 1) * 256 = 256 := by omega
  have hnext : t0NextOvf (t0Restarted v s) =
      (s.now.toNat : Int) - (v.toNat : Int) * (t0Div s.t0.con : Int) + 256 * (t0Div s.t0.con : Int) := by
    rw [t0NextOvf, t0Abs_restarted]
    simp only [hperiod]
    rfl
  have hahead : t0NextOvf (t0Restarted v s) = ((s.now.toNat + (256 - v.toNat) * t0Div s.t0.con : Nat) : Int) := by
    rw [hnext]
    push_cast [hv]
    ring
  rw [hahead, Int.toNat_natCast]

theorem t0Start_eq (v : Byte) (s : State) :
    t0Start v s = reschedule .t0Ovf (s.now.toNat + (256 - v.toNat) * t0Div s.t0.con) (t0Restarted v s) := by
  rw [← t0NextOvf_restarted]
  rfl

/-- What a restart leaves: the anchor, and the overflow alone of Timer0 in the queue. -/
theorem t0Start_next (v : Byte) (s : State) : ∃ q,
    t0Start v s = { t0Restarted v s with queue := q, seq := s.seq + 1 } ∧
      ∀ e, e ∈ q ↔ (e ∈ s.queue ∧ e.trig ≠ .t0Ovf) ∨
        e = ⟨s.now.toNat + (256 - v.toNat) * t0Div s.t0.con, s.seq, .t0Ovf⟩ := by
  rw [t0Start_eq]
  exact reschedule_next _ _ _

/-- A running Timer0 gets the new anchor and nothing else. -/
theorem t0Restarted_running (v : Byte) {s : State} (hrun : s.t0.run = true) : t0Restarted v s = { s with
    t0 := { s.t0 with anchor := (s.now.toNat : Int) - (v.toNat : Int) * (t0Div s.t0.con : Int) } } := by
  rw [t0Restarted, ← hrun]

/-- `n` cycles after a restart the register has counted `n / P0` on (R212, R217). -/
theorem toNat_t0Count_after {v : Byte} {s t : State} (ht0 : t.t0 = (t0Restarted v s).t0) {n : Nat}
    (hnow : t.now.toNat = s.now.toNat + n) : (t0Count t).toNat = (v.toNat + n / t0Div s.t0.con) % 256 := by
  have hpos : (t0Div s.t0.con : Int) ≠ 0 := by exact_mod_cast (t0Div_pos s.t0.con).ne'
  have habs : t0Abs t = ((v.toNat + n / t0Div s.t0.con : Nat) : Int) := by
    have hsince : ((s.now.toNat + n : Nat) : Int) - (s.now.toNat - v.toNat * (t0Div s.t0.con : Int)) =
        n + v.toNat * (t0Div s.t0.con : Int) := by push_cast; ring
    rw [t0Abs, State.cycle, hnow, ht0]
    show (((s.now.toNat + n : Nat) : Int) - (s.now.toNat - v.toNat * (t0Div s.t0.con : Int))) / (t0Div s.t0.con : Int) = _
    rw [hsince, Int.add_mul_ediv_right _ _ hpos]
    push_cast
    ring
  have hrun : t.t0.run = true := by rw [ht0]; rfl
  have hcount := toNat_count t.t0.run (t0Abs t) t.t0.held
  rw [hrun, if_pos rfl, if_pos rfl, habs] at hcount
  rw [t0Count, hrun, if_pos rfl, habs]
  exact_mod_cast hcount

theorem now_add {s : State} {n : Nat} (h : s.now.toNat + n < 2 ^ 64) :
    (s.now + BitVec.ofNat 64 n).toNat = s.now.toNat + n := by
  rw [BitVec.toNat_add, BitVec.toNat_ofNat]
  omega

/-- Settles O31, by `t0Start_next` where Timer0 runs and by the stored cell where it is stopped. -/
theorem putTmr0Anchors : Obligations.PutTmr0Anchors := by
  intro v s p
  have hexec : exec (.putTmr0 v) s = .next (writeTmr0 v s) := congrArg Host.Outcome.next (regPut_all rfl v s)
  rw [hexec]
  refine ⟨fun hrun => ?running, fun hrun => ?stopped⟩
  case running =>
    obtain ⟨q, hstart, hq⟩ := t0Start_next v s
    refine ⟨q, ?_, hq, fun n hn => toNat_t0Count_after (s := s) ?_ (now_add hn)⟩
    · rw [writeTmr0, if_pos hrun, hstart, t0Restarted_running v hrun]
    · rw [t0Restarted_running v hrun]
  case stopped =>
    refine ⟨?_, if_neg (ne_true_of_eq_false hrun)⟩
    rw [writeTmr0, if_neg (ne_true_of_eq_false hrun)]
    rfl

/-- Timer0 with T0CON stored and its prescaler restarted where the divisor or the clock select changed (R214). -/
def t0Stored (c : Byte) (s : State) : State := { s with
  t0 := { s.t0 with
    con := c
    pre := if t0Div c ≠ t0Div s.t0.con ∨ bit c 5 ≠ bit s.t0.con 5 then ⟨t0Div c - 1, t0Div c⟩ else s.t0.pre } }

theorem writeT0con_changed {c : Byte} {s : State} (hc : c ≠ s.t0.con) : writeT0con c s =
    if t0RunCond (t0Stored c s) then t0Start (t0Count s) (t0Stored c s) else t0Stop (t0Count s) (t0Stored c s) := by
  rw [writeT0con, if_neg hc]
  rfl

/-- Settles O32, by the run condition under the stored byte: `t0Start_next` where it holds, else the stop. -/
theorem putT0conKeepsCount : Obligations.PutT0conKeepsCount := by
  intro v s c n p pre
  have hexec : exec (.putT0con v) s = .next (writeT0con c s) :=
    congrArg Host.Outcome.next (regPut_masked (r := .t0con) rfl (fun _ => rfl) v s)
  have hcond : t0RunCond (t0Stored c s) = (bit c 7 && !bit c 5 && !s.sleeping) := rfl
  rw [hexec]
  refine ⟨fun hc => ?same, fun hc hen hcs hsleep => ?started, fun hc hoff => ?stopped⟩
  case same => rw [writeT0con, if_pos hc]
  case started =>
    obtain ⟨q, hstart, hq⟩ := t0Start_next n (t0Stored c s)
    have hyes : t0RunCond (t0Stored c s) = true := by rw [hcond, hen, hcs, hsleep]; rfl
    refine ⟨q, ?_, hq⟩
    rw [writeT0con_changed hc, hyes]
    exact congrArg Host.Outcome.next hstart
  case stopped =>
    have hno : t0RunCond (t0Stored c s) = false := by
      rw [hcond]
      rcases hoff with h | h | h <;> simp [h]
    rw [writeT0con_changed hc, hno]
    have hfilter : s.queue.filter (fun e => e.trig != .t0Ovf) = s.queue.filter (fun e => decide (e.trig ≠ .t0Ovf)) :=
      List.filter_congr fun e _ => by by_cases h : e.trig = .t0Ovf <;> simp [h]
    show Host.Outcome.next (t0Stop n (t0Stored c s)) = _
    rw [← hfilter]
    rfl

/-! ### The overflow -/

/-- A trigger that has just fired is not pending any more: the queue has one entry a trigger (R23). -/
theorem pending_none_of_fired {s t : State} {u : TrigId} {c k : Nat} {rest : List Event} (hs : s.Inv)
    (hq : s.queue = ⟨c, k, u⟩ :: rest) (ht : t.queue = rest) : t.pending u = none := by
  obtain ⟨⟨-, hdistinct, -⟩, -⟩ := hs
  rw [hq, List.pairwise_cons] at hdistinct
  exact (pending_eq_none t u).2 fun e he => (hdistinct.1 e (ht ▸ he)).symm

theorem schedule_of_not_pending {t : TrigId} {s : State} (c : Nat) (h : s.pending t = none) :
    schedule t c s = { s with queue := insertEvent ⟨c, s.seq, t⟩ s.queue, seq := s.seq + 1 } := by
  rw [schedule, h]
  rfl

/-- The callback of T0_OVF with hosts alone listening (R215). -/
theorem t0OvfCallback_hosts {s : State} {c : Nat} (hc : s.effectCycle = c) (hp : s.pending .t0Ovf = none)
    (hd : s.busDepth < s.cfg.busDepthMax) (hr : s.hostsOnly .t0Ovf) : t0OvfCallback signal s = { s with
      queue := insertEvent ⟨c + 256 * t0Div s.t0.con, s.seq, .t0Ovf⟩ s.queue, seq := s.seq + 1
      t0 := { s.t0 with anchor := (c : Int), flag := true }
      out := s.out ++ [.irq .tmr0 s.now.toNat] ++ s.heard .t0Ovf 0 1 s.now.toNat } := by
  subst hc
  have hsched := schedule_of_not_pending (t := .t0Ovf)
    (s := { s with t0 := { s.t0 with anchor := (s.effectCycle : Int) } }) (s.effectCycle + 256 * t0Div s.t0.con) hp
  simp only [t0OvfCallback, hsched]
  exact publish_hosts _ _ _ _ hd hr

/-- Settles O33, by `t0OvfCallback_hosts` at the one event that is due. -/
theorem timer0Overflows : Obligations.Timer0Overflows := by
  intro k rest s hs hn hq hrest hr hd c
  obtain ⟨hqueue, hf, hb, hpd⟩ := hs
  have hcall := t0OvfCallback_hosts
    (s := { s with now := s.now + 1, queue := rest, firing := some (.t0Ovf, s.now.toNat + 1) }) rfl
    (pending_none_of_fired ⟨hqueue, hf, hb, hpd⟩ hq rfl) (show s.busDepth < s.cfg.busDepthMax by omega) hr
  have hmem (e : Event) : e ∈ insertEvent ⟨c + 256 * t0Div s.t0.con, s.seq, .t0Ovf⟩ rest ↔
      e ∈ rest ∨ e = ⟨c + 256 * t0Div s.t0.con, s.seq, .t0Ovf⟩ := (mem_insertEvent _ _ _).trans or_comm
  refine ⟨_, step_one ⟨⟨hqueue, hf, hb, hpd⟩, hn, ⟨k, hq⟩, hrest⟩ ?_ fun e he => ?_, hmem⟩
  · simp only [callback, hcall, now_succ hn, ← hf]
    rfl
  · have hpos := t0Div_pos s.t0.con
    simp only [now_succ hn]
    rcases (hmem e).1 he with h | rfl
    · exact hrest e h
    · show s.now.toNat + 1 < s.now.toNat + 1 + 256 * t0Div s.t0.con
      omega

end Sys2Proof.Machine
end

section
/-!
Laws of a pin with one listener (R175, R176) and of a publication to hosts inside a propagation (R182), and the proof
about the edges of T0CKI (42_timers.md R216).
-/

namespace Sys2Proof.Machine

open Sys2Proof

/-! ### One listener -/

/-- Hosts are told the same at every depth of nesting (R182, R184). -/
theorem wire_publish_hosts (n : Nat) {k : ChanKind} (b v : Nat) {s : State} (hd : s.busDepth < s.cfg.busDepthMax)
    (hr : s.hostsOnly k) : wire (n + 1) (.publish k b v) s = { s with out := s.out ++ s.heard k b v s.now.toNat } := by
  have hdeliver (w w' : Wire) (t : State) {r : RecvId} (hhost : r.isHost = true) :
      deliver w r k b v t = deliver w' r k b v t := by
    cases r with
    | host j => rfl
    | _ => cases hhost
  rw [← publish_hosts k b v s hd hr]
  show publishWith (deliver (wire n)) k b v s = publishWith (deliver (wire (2 * s.cfg.busDepthMax))) k b v s
  simp only [publishWith]
  rw [List.foldl_ext _ _ _ fun t r hmem => by rw [hdeliver _ _ t (hr r hmem)]]

/-- The state that the one listener of a pin meets: the level has changed, the change is recorded, and the propagation is
one deeper (R175). -/
def drivenAt (p : PinIx) (l : Level) (s : State) : State := { s with
  pins := s.pins.set p { s.pins[p] with ext := l, lvl := l }
  out := s.out ++ [.pin p l s.now.toNat]
  pinDepth := s.pinDepth + 1 }

theorem pinObservable_of_no_source {s : State} {m : Pin} (h : m.src = none) : pinObservable s m = m.ext := by
  have hdrive : pinOwnDrive s m = .Z := by
    unfold pinOwnDrive
    rw [h]
  unfold pinObservable
  rw [hdrive]
  exact if_pos rfl

/-- `PinDrive` of a pin whose level changes and that has one listener (R175). -/
theorem pinDriveWith_one_sink {notify : SinkId → PinIx → Level → Level → State → State} {p : PinIx} {m : Pin}
    {k : SinkId} {s : State} (hpin : s.pins[p] = m) (hsinks : m.sinks = [k]) (hl : pinObservable s m ≠ m.lvl)
    (hd : s.pinDepth < s.cfg.busDepthMax) : pinDriveWith notify p s =
      let s1 := emit (.pin p (pinObservable s m) s.cycle) (s.setPin p { m with lvl := pinObservable s m })
      let t := notify k p m.lvl (pinObservable s m) { s1 with pinDepth := s1.pinDepth + 1 }
      { t with pinDepth := t.pinDepth - 1 } := by
  subst hpin
  simp only [pinDriveWith, if_neg hl, if_neg (Nat.not_le.2 hd), hsinks]
  rfl

/-- The propagation of a pin's change is over (R175). -/
def State.surfaced (s : State) : State := { s with pinDepth := s.pinDepth - 1 }

/-- DRIVE of a pin that has no source and one listener: the level changes and the listener is told (R175, R176). -/
theorem exec_drive_one_sink {p : PinIx} {l : Level} {k : SinkId} {s : State} (hp : p.val < s.cfg.nPin)
    (hsinks : s.pins[p].sinks = [k]) (hsrc : s.pins[p].src = none) (hl : s.pins[p].lvl ≠ l)
    (hd : s.pinDepth < s.cfg.busDepthMax) : exec (.drive p l) s =
      .next (sinkNotify (wire (2 * s.cfg.busDepthMax)) k p s.pins[p].lvl l (drivenAt p l s)).surfaced := by
  let m : Pin := { s.pins[p] with ext := l }
  have hpin : (s.setPin p m).pins[p] = m := by simp [State.setPin]
  have hobs : pinObservable (s.setPin p m) m = l := pinObservable_of_no_source hsrc
  have hdrive := pinDriveWith_one_sink (notify := sinkNotify (wire (2 * s.cfg.busDepthMax))) hpin hsinks
    (by rw [hobs]; exact hl.symm) hd
  have hset : (s.setPin p m).setPin p { m with lvl := l } = s.setPin p { s.pins[p] with ext := l, lvl := l } := by
    simp [State.setPin, m]
  rw [hobs, hset] at hdrive
  exact (onPin_present hp).trans (congrArg Host.Outcome.next hdrive)

/-! ### The edges of T0CKI -/

theorem isRising_to_H {l : Level} (h : l ≠ .H) : isRising l .H = true := by
  cases l with
  | L => rfl
  | H => exact absurd rfl h
  | Z => rfl

/-- A rising edge in the edge-counting mode steps the prescaler; its tick counts, and the count's wrap is the overflow
(R216). -/
theorem t0Edge_rising {w : Wire} {old : Level} {s : State} (hold : old ≠ .H) (hen : bit s.t0.con 7 = true)
    (hcs : bit s.t0.con 5 = true) (hse : bit s.t0.con 4 = false) :
    let counted (h : Byte) : State := { s with
      t0 := { s.t0 with pre := ⟨s.t0.pre.div - 1, s.t0.pre.div⟩, held := h } }
    (s.t0.pre.cnt ≠ 0 →
      t0Edge w old .H s = { s with t0 := { s.t0 with pre := ⟨s.t0.pre.cnt - 1, s.t0.pre.div⟩ } }) ∧
    (s.t0.pre.cnt = 0 → s.t0.held ≠ 255 → t0Edge w old .H s = counted (s.t0.held + 1)) ∧
    (s.t0.pre.cnt = 0 → s.t0.held = 255 →
      t0Edge w old .H s = w (.publish .t0Ovf 0 1) (raiseIF .tmr0 (counted 0))) := by
  intro counted
  have hgo : (t0En s.t0.con && t0Cs s.t0.con && isRising old .H) = true := by
    rw [t0En, t0Cs, hen, hcs, isRising_to_H hold]
    rfl
  have hwrap : s.t0.held + 1 = 0 ↔ s.t0.held = 255 := by
    constructor <;> intro h <;> bv_omega
  have hticks (hcnt : s.t0.pre.cnt = 0) : preStep s.t0.pre = (⟨s.t0.pre.div - 1, s.t0.pre.div⟩, true) := if_pos hcnt
  simp only [t0Edge, t0Se, hse, Bool.false_eq_true, if_false, hgo, if_true]
  refine ⟨fun hcnt => ?counts, fun hcnt hheld => ?ticks, fun hcnt hheld => ?wraps⟩
  case counts =>
    have hstep : preStep s.t0.pre = (⟨s.t0.pre.cnt - 1, s.t0.pre.div⟩, false) := if_neg hcnt
    simp only [hstep, Bool.false_eq_true, if_false]
  case ticks =>
    simp only [hticks hcnt, if_true]
    exact if_neg (hwrap.not.2 hheld)
  case wraps =>
    simp only [hticks hcnt, if_true]
    rw [if_pos (hwrap.2 hheld), hwrap.2 hheld]

/-- Settles O19, by `t0Edge_rising` inside the propagation and `wire_publish_hosts` at the wrap. -/
theorem driveClocksTimer0 : Obligations.DriveClocksTimer0 := by
  intro p s hp hsinks hsrc hlvl hen hcs hse hr hpd hbd s1
  obtain ⟨n, hfuel⟩ : ∃ n, 2 * s.cfg.busDepthMax = n + 1 := ⟨2 * s.cfg.busDepthMax - 1, by omega⟩
  have hexec := exec_drive_one_sink hp hsinks hsrc hlvl hpd
  rw [hfuel] at hexec
  obtain ⟨hcounts, hticks, hwraps⟩ := t0Edge_rising (w := wire (n + 1)) (s := drivenAt p .H s) hlvl hen hcs hse
  have hdone {u : State} (h : t0Edge (wire (n + 1)) s.pins[p].lvl .H (drivenAt p .H s) = u) :
      exec (.drive p .H) s = .next u.surfaced := hexec.trans (congrArg (fun u : State => Host.Outcome.next u.surfaced) h)
  refine ⟨fun hcnt => hdone (hcounts hcnt), fun hcnt hheld => hdone (hticks hcnt hheld), fun hcnt hheld => ?_⟩
  exact hdone ((hwraps hcnt hheld).trans (wire_publish_hosts n 0 1 hbd hr))

end Sys2Proof.Machine
end

section
/-!
Laws of Timer1's breakpoint (42_timers.md R219): the first absolute count past the present one that is a rollover or a
compare value, and the first cycle that reaches it.
-/

namespace Sys2Proof.Machine

open Sys2Proof

/-! ### The next count that matches -/

/-- The next matching count lies ahead, matches, and no count before it does (R219). -/
theorem t1MatchAt_spec (cur : Int) (v : Half) :
    cur < t1MatchAt cur v ∧ t1MatchAt cur v % 65536 = (v.toNat : Int) ∧
      ∀ j, cur < j → j % 65536 = (v.toNat : Int) → t1MatchAt cur v ≤ j := by
  have hv := v.isLt
  unfold t1MatchAt
  dsimp only
  split
  · exact ⟨by omega, by omega, fun j _ _ => by omega⟩
  · exact ⟨by omega, by omega, fun j _ _ => by omega⟩

/-- The least of a value and a list's values. -/
theorem foldl_min_spec {α : Type} (f : α → Int) (l : List α) (a : Int) :
    (l.foldl (fun m e => min m (f e)) a = a ∨ ∃ e ∈ l, l.foldl (fun m e => min m (f e)) a = f e) ∧
      l.foldl (fun m e => min m (f e)) a ≤ a ∧ ∀ e ∈ l, l.foldl (fun m e => min m (f e)) a ≤ f e := by
  induction l generalizing a with
  | nil => exact ⟨.inl rfl, le_refl a, by simp⟩
  | cons x l ih =>
    obtain ⟨hmem, hle, hall⟩ := ih (min a (f x))
    rw [List.foldl_cons]
    refine ⟨?_, hle.trans (min_le_left _ _), fun e he => ?_⟩
    · rcases hmem with h | ⟨e, he, h⟩
      · rcases min_choice a (f x) with hmin | hmin
        · exact .inl (h.trans hmin)
        · exact .inr ⟨x, List.mem_cons_self, h.trans hmin⟩
      · exact .inr ⟨e, List.mem_cons_of_mem _ he, h⟩
    · rcases List.mem_cons.1 he with rfl | he
      · exact hle.trans (min_le_right _ _)
      · exact hall e he

/-- An absolute count that is a rollover or reaches a compare value (R219). -/
def t1Hits (cmp : List (CcpId × Half)) (j : Int) : Prop :=
  j % 65536 = 0 ∨ ∃ e ∈ cmp, (e.2.toNat : Int) = j % 65536

/-- The first count past `cur` that is a rollover or reaches a compare value. -/
structure IsNextHit (cmp : List (CcpId × Half)) (cur b : Int) : Prop where
  ahead : cur < b
  hits : t1Hits cmp b
  first : ∀ j, cur < j → t1Hits cmp j → b ≤ j

/-- The count that the breakpoint of Timer1 is for (R219). -/
def t1Next (cmp : List (CcpId × Half)) (cur : Int) : Int :=
  cmp.foldl (fun m e => min m (t1MatchAt cur e.2)) (cur - cur % 65536 + 65536)

theorem isNextHit_t1Next (cmp : List (CcpId × Half)) (cur : Int) : IsNextHit cmp cur (t1Next cmp cur) := by
  obtain ⟨hmem, hroll, hall⟩ := foldl_min_spec (fun e : CcpId × Half => t1MatchAt cur e.2) cmp (cur - cur % 65536 + 65536)
  refine ⟨?ahead, ?hits, fun j hj hhit => ?first⟩
  case ahead =>
    rcases hmem with h | ⟨e, -, h⟩
    · unfold t1Next
      omega
    · exact lt_of_lt_of_eq (t1MatchAt_spec cur e.2).1 h.symm
  case hits =>
    rcases hmem with h | ⟨e, he, h⟩
    · refine .inl ?_
      unfold t1Next
      omega
    · exact .inr ⟨e, he, (t1MatchAt_spec cur e.2).2.1.symm.trans (congrArg (· % 65536) h.symm)⟩
  case first =>
    rcases hhit with hzero | ⟨e, he, hval⟩
    · exact hroll.trans (by omega)
    · exact (hall e he).trans ((t1MatchAt_spec cur e.2).2.2 j hj hval.symm)

/-! ### The cycle that reaches it -/

theorem t1Ratio_cases (con : Byte) : t1Ratio con = ⟨1, 1⟩ ∨ t1Ratio con = ⟨4, 1⟩ := by
  unfold t1Ratio
  split
  · exact .inr rfl
  · exact .inl rfl

theorem t1Div_pos (con : Byte) : 0 < t1Div con := Nat.two_pow_pos _

/-- An input clock that has not come yet comes at a later cycle (R202). -/
theorem lt_cycleOf {k : Ratio} (hk : k = ⟨1, 1⟩ ∨ k = ⟨4, 1⟩) {n : Nat} {x : Int} (h : tin k n < x) :
    (n : Int) < cycleOf k (x : Rat) := by
  rw [cycleOf, Rat.lt_ceil_iff]
  rcases hk with rfl | rfl
  · have hx : (n : Int) < x := by simpa [tin] using h
    norm_num
    exact_mod_cast hx
  · have hx : (n * 4 : Int) < x := by simpa [tin] using h
    norm_num
    rw [lt_div_iff₀ (by norm_num)]
    exact_mod_cast hx

/-- The count past the present one has its input clock ahead. -/
theorem tin_lt_of_t1Abs_lt {s : State} {b : Int} (h : t1Abs s < b) :
    tin (t1Ratio s.t1.con) s.now.toNat < s.t1.anchor + b * (t1Div s.t1.con : Int) := by
  have hdiv : (0 : Int) < t1Div s.t1.con := by exact_mod_cast t1Div_pos s.t1.con
  have hlt : (tin (t1Ratio s.t1.con) s.now.toNat - s.t1.anchor) / (t1Div s.t1.con : Int) < b := h
  rw [Int.ediv_lt_iff_lt_mul hdiv] at hlt
  omega

/-! ### The recomputation -/

/-- The breakpoint stands at the count `b`, due strictly ahead at cycle `c`, the first that reaches it (R219). -/
structure T1Placed (s t : State) (b : Int) (c : Nat) : Prop where
  next : IsNextHit s.t1.cmp (t1Abs s) b
  cycle : (c : Int) = cycleOf (t1Ratio s.t1.con) ((s.t1.anchor + b * (t1Div s.t1.con : Int) : Int) : Rat)
  ahead : s.now.toNat < c
  value : t.t1.breakValue = some b.toNat
  pending : t.pending .t1Brk = some (c, s.seq)
  queue : ∀ e, e ∈ t.queue ↔ (e ∈ s.queue ∧ e.trig ≠ .t1Brk) ∨ e = ⟨c, s.seq, .t1Brk⟩

theorem t1Recompute_running {s : State} (hrun : s.t1.run = true) : ∃ b c, T1Placed s (t1Recompute s) b c := by
  have hnext := isNextHit_t1Next s.t1.cmp (t1Abs s)
  have hahead := lt_cycleOf (t1Ratio_cases s.t1.con) (tin_lt_of_t1Abs_lt hnext.ahead)
  have hcycle := Int.toNat_of_nonneg (le_trans (Int.natCast_nonneg _) hahead.le)
  refine ⟨_, _, hnext, hcycle, by omega, ?_, ?_, fun e => ?_⟩
  · rw [t1Recompute, if_pos hrun]
    exact congrArg Timer1.breakValue (reschedule_t1 _ _ _)
  · rw [t1Recompute, if_pos hrun]
    exact pending_reschedule_same _ _ _
  · rw [t1Recompute, if_pos hrun]
    exact (mem_reschedule _ _ _ e).trans or_comm

theorem t1Recompute_stopped {s : State} (hrun : s.t1.run = false) :
    (t1Recompute s).t1.breakValue = none ∧ (t1Recompute s).pending .t1Brk = none := by
  rw [t1Recompute, if_neg (ne_true_of_eq_false hrun)]
  exact ⟨rfl, pending_cancel_same _ _⟩

end Sys2Proof.Machine
end

section
/-!
Proofs of the statements of 42_timers.md about PUT TMR1L and TMR1H (R219, R220, R222) and PUT T1CON (R203, R223).
-/

namespace Sys2Proof.Machine

open Sys2Proof

/-! ### Timer1 restarted -/

/-- Timer1 set to the count `v`, from an anchor where it runs and held where it does not (R221). -/
def t1Restarted (v : Half) (s : State) : State := { s with
  t1 := if t1RunCond s then { s.t1 with
      run := true, anchor := tin (t1Ratio s.t1.con) s.cycle - (v.toNat : Int) * (t1Div s.t1.con : Int) }
    else { s.t1 with run := false, held := v } }

theorem t1Update_eq (v : Half) (s : State) : t1Update v s = t1Recompute (t1Restarted v s) := by
  unfold t1Update t1Restarted
  split <;> rfl

theorem t1Abs_restarted {v : Half} {s : State} (hrun : (t1Restarted v s).t1.run = true) :
    t1Abs (t1Restarted v s) = v.toNat := by
  cases hcond : t1RunCond s with
  | false => simp [t1Restarted, hcond] at hrun
  | true =>
    unfold t1Restarted
    rw [hcond]
    exact ediv_anchor _ _ _ (t1Div_pos s.t1.con)

/-- The next hit past a 16-bit count is the rollover or the nearest compare value past it (R219). -/
theorem IsNextHit.of_half {cmp : List (CcpId × Half)} {v : Half} {b : Int} (h : IsNextHit cmp v.toNat b) :
    ∃ m : Nat, b = m ∧ v.toNat < m ∧ m ≤ 65536 ∧ (∀ e ∈ cmp, v.toNat < e.2.toNat → m ≤ e.2.toNat) ∧
      (m = 65536 ∨ ∃ e ∈ cmp, e.2.toNat = m) := by
  obtain ⟨hahead, hhits, hfirst⟩ := h
  have hv := v.isLt
  have hle : b ≤ 65536 := hfirst 65536 (by omega) (.inl rfl)
  refine ⟨b.toNat, by omega, by omega, by omega, fun e he hlt => ?_, ?_⟩
  · have he16 := e.2.isLt
    have := hfirst e.2.toNat (by omega) (.inr ⟨e, he, by omega⟩)
    omega
  · rcases hhits with hroll | ⟨e, he, hval⟩
    · exact .inl (by omega)
    · by_cases hb : b = 65536
      · exact .inl (by omega)
      · exact .inr ⟨e, he, by omega⟩

/-- The breakpoint of Timer1 lies ahead, at the first cycle that reaches the recorded count, and that is the rollover or
the nearest compare value past the count `v` (R219). -/
def T1Ahead (v : Half) (t : State) : Prop :=
  ∃ m c ins, t.t1.breakValue = some m ∧ t.pending .t1Brk = some (c, ins) ∧ t.now.toNat < c ∧
    (c : Int) = cycleOf (t1Ratio t.t1.con) ((t.t1.anchor + (m : Int) * (t1Div t.t1.con : Int) : Int) : Rat) ∧
    v.toNat < m ∧ m ≤ 65536 ∧ (∀ e ∈ t.t1.cmp, v.toNat < e.2.toNat → m ≤ e.2.toNat) ∧
    (m = 65536 ∨ ∃ e ∈ t.t1.cmp, e.2.toNat = m)

theorem t1Update_running {v : Half} {s t : State} (ht : t = t1Update v s) (hrun : t.t1.run = true) : T1Ahead v t := by
  have hnow : t.now = s.now := by rw [ht, (t1CountsFrom_t1Update v s).frame]
  rw [t1Update_eq] at ht
  subst ht
  obtain ⟨value, kinds, ht1⟩ := t1_t1Recompute (t1Restarted v s)
  have hrunning : (t1Restarted v s).t1.run = true := by
    rw [ht1] at hrun
    exact hrun
  obtain ⟨b, c, hplaced⟩ := t1Recompute_running hrunning
  have hnext := hplaced.next
  rw [t1Abs_restarted hrunning] at hnext
  obtain ⟨m, rfl, hbounds⟩ := hnext.of_half
  refine ⟨m, c, _, hplaced.value.trans (by simp), hplaced.pending, lt_of_eq_of_lt (by rw [hnow]; rfl) hplaced.ahead, ?_⟩
  rw [ht1]
  exact ⟨hplaced.cycle, hbounds⟩

theorem t1Update_stopped {v : Half} {s t : State} (ht : t = t1Update v s) (hrun : t.t1.run = false) :
    t.pending .t1Brk = none ∧ t.t1.breakValue = none := by
  rw [t1Update_eq] at ht
  subst ht
  obtain ⟨value, kinds, ht1⟩ := t1_t1Recompute (t1Restarted v s)
  have hstopped : (t1Restarted v s).t1.run = false := by
    rw [ht1] at hrun
    exact hrun
  exact (t1Recompute_stopped hstopped).symm

/-! ### PUT TMR1L and TMR1H -/

/-- Timer1 with its prescaler restarted where it counts edges (R222). -/
def t1Reloaded (s : State) : State := { s with
  t1 := { s.t1 with pre := if t1CountsEdges s then preReload s.t1.pre else s.t1.pre } }

theorem writeTmr1_eq (v : Half) (s : State) : writeTmr1 v s = t1Update v (t1Reloaded s) := by
  unfold writeTmr1 t1Reloaded
  split <;> rfl

theorem t1Reloaded_pre_div (s : State) : (t1Reloaded s).t1.pre.div = s.t1.pre.div := by
  unfold t1Reloaded
  dsimp only
  split <;> rfl

/-- What a PUT of the count leaves of Timer1, and where it sets the breakpoint. -/
structure Tmr1Written (v : Half) (s t : State) : Prop where
  counts : T1CountsFrom v (t1Reloaded s) t
  stopped : t.t1.run = false → t.pending .t1Brk = none ∧ t.t1.breakValue = none
  running : t.t1.run = true → T1Ahead v t

theorem tmr1Written_writeTmr1 (v : Half) (s : State) : Tmr1Written v s (writeTmr1 v s) :=
  ⟨writeTmr1_eq v s ▸ t1CountsFrom_t1Update v (t1Reloaded s), t1Update_stopped (writeTmr1_eq v s),
    t1Update_running (writeTmr1_eq v s)⟩

theorem Tmr1Written.frame {v : Half} {s t : State} (h : Tmr1Written v s t) :
    { s with t1 := t.t1, queue := t.queue, seq := t.seq } = t := h.counts.frame.symm

/-- What a counter's run bit, count and breakpoint leave of Timer1 stands where `Timer1.standing` does. -/
theorem field_of_standing {t u : Timer1} (h : t.standing = u.standing) {α : Type} (f : Timer1 → α)
    (hf : ∀ u : Timer1, f u.standing = f u := by exact fun _ => rfl) : f t = f u :=
  (hf t).symm.trans ((congrArg f h).trans (hf u))

/-- What stands of Timer1 when its count is written, field by field. -/
theorem Tmr1Written.registers {v : Half} {s t : State} (h : Tmr1Written v s t) :
    t.t1.con = s.t1.con ∧ t.t1.gcon = s.t1.gcon ∧ t.t1.flag = s.t1.flag ∧ t.t1.gateTff = s.t1.gateTff ∧
      t.t1.gateLvl = s.t1.gateLvl ∧ t.t1.cmp = s.t1.cmp ∧ t.t1.pre.div = s.t1.pre.div := by
  have hst := h.counts.standing
  exact ⟨field_of_standing hst Timer1.con, field_of_standing hst Timer1.gcon, field_of_standing hst Timer1.flag,
    field_of_standing hst Timer1.gateTff, field_of_standing hst Timer1.gateLvl, field_of_standing hst Timer1.cmp,
    (field_of_standing hst fun u => u.pre.div).trans (t1Reloaded_pre_div s)⟩

/-- Settles O34, by `tmr1Written_writeTmr1` at the count with one byte replaced. -/
theorem putTmr1ReadsBack : Obligations.PutTmr1ReadsBack := by
  intro v s wrote
  have hwrote {w : Half} {t : State} (h : Tmr1Written w s t) : wrote t.t1 t.queue t := by
    obtain ⟨hcon, hgcon, hflag, htff, hlvl, hcmp, hdiv⟩ := h.registers
    have hcount : (readReg .tmr1h t).toNat * 256 + (readReg .tmr1l t).toNat = w.toNat :=
      (toNat_bytes _).trans (congrArg BitVec.toNat h.counts.count)
    refine ⟨hcon, hgcon, hflag, htff, hlvl, hcmp, hdiv, fun e he => h.counts.events e (by simpa using he), h.stopped, ?_⟩
    simp only [hcount]
    exact h.running
  refine ⟨?low, ?high⟩
  case low =>
    have hexec : exec (.putTmr1l v) s = .next (writeTmr1l v s) := congrArg Host.Outcome.next (regPut_all rfl v s)
    have h := tmr1Written_writeTmr1 (pairOf (highByte (t1Count s)) v) s
    refine ⟨(writeTmr1l v s).t1, (writeTmr1l v s).queue, (writeTmr1l v s).seq, ?_⟩
    rw [writeTmr1l, h.frame]
    exact ⟨hexec, (congrArg lowByte h.counts.count).trans (lowByte_pairOf _ _),
      (congrArg highByte h.counts.count).trans (highByte_pairOf _ _), hwrote h⟩
  case high =>
    have hexec : exec (.putTmr1h v) s = .next (writeTmr1h v s) := congrArg Host.Outcome.next (regPut_all rfl v s)
    have h := tmr1Written_writeTmr1 (pairOf v (lowByte (t1Count s))) s
    refine ⟨(writeTmr1h v s).t1, (writeTmr1h v s).queue, (writeTmr1h v s).seq, ?_⟩
    rw [writeTmr1h, h.frame]
    exact ⟨hexec, (congrArg highByte h.counts.count).trans (highByte_pairOf _ _),
      (congrArg lowByte h.counts.count).trans (lowByte_pairOf _ _), hwrote h⟩

/-! ### PUT T1CON -/

theorem field_eq_toNat (b : Byte) (lo w : Nat) : field b lo w = (b.extractLsb' lo w).toNat := by
  rw [BitVec.extractLsb'_toNat, Nat.shiftRight_eq_div_pow, field]

/-- A mask that keeps a field keeps its value. -/
theorem field_and {m : Byte} {lo w : Nat} (hm : m.extractLsb' lo w = BitVec.allOnes w) (v : Byte) :
    field (v &&& m) lo w = field v lo w := by
  rw [field_eq_toNat, field_eq_toNat, BitVec.extractLsb'_and, hm, BitVec.and_allOnes]

/-- What a PUT of T1CON leaves: the count, all of Timer1 but the byte and its prescaler, and everything outside it. -/
structure T1conWritten (c : Byte) (s t : State) : Prop extends T1Only s t where
  standing : ∃ pre, t.t1.standing = { s.t1 with con := c, pre := pre }.standing
  count : t1Count t = t1Count s

theorem T1CountsFrom.t1conWritten {c : Byte} {s t : State} {pre : Prescaler}
    (h : T1CountsFrom (t1Count s) { s with t1 := { s.t1 with con := c, pre := pre } } t) : T1conWritten c s t :=
  ⟨⟨h.frame, h.events⟩, ⟨pre, h.standing⟩, h.count⟩

/-- A byte that leaves CS, CKPS and ON is only stored (R223). -/
theorem writeT1con_stored {c : Byte} {s : State} (hcs : t1Cs c = t1Cs s.t1.con) (hdiv : t1Div c = t1Div s.t1.con)
    (hon : t1On c = t1On s.t1.con) : writeT1con c s = { s with t1 := { s.t1 with con := c } } := by
  simp only [writeT1con]
  exact if_pos ⟨hcs, hdiv, hon⟩

theorem t1Count_stored {c : Byte} {s : State} (hcs : t1Cs c = t1Cs s.t1.con) (hdiv : t1Div c = t1Div s.t1.con) :
    t1Count { s with t1 := { s.t1 with con := c } } = t1Count s := by
  simp only [t1Count, t1Abs, State.cycle, t1Ratio, hcs, hdiv]

/-- Stored alone where CS, CKPS and ON stand; else the count goes on under the new byte, with a new prescaler or the
old (R223). -/
theorem t1conWritten_writeT1con (c : Byte) (s : State) : T1conWritten c s (writeT1con c s) := by
  by_cases hsame : t1Cs c = t1Cs s.t1.con ∧ t1Div c = t1Div s.t1.con ∧ t1On c = t1On s.t1.con
  · obtain ⟨hcs, hdiv, hon⟩ := hsame
    rw [writeT1con_stored hcs hdiv hon]
    exact ⟨⟨rfl, fun _ _ => Iff.rfl⟩, ⟨s.t1.pre, rfl⟩, t1Count_stored hcs hdiv⟩
  · simp only [writeT1con]
    rw [if_neg hsame]
    split
    · exact T1CountsFrom.t1conWritten (t1CountsFrom_t1Update _ _)
    · exact T1CountsFrom.t1conWritten (pre := s.t1.pre) (t1CountsFrom_t1Update _ _)

/-- Settles O35, by `t1conWritten_writeT1con` and, where CS, CKPS and ON stand, `writeT1con_stored`. -/
theorem putT1conKeepsCount : Obligations.PutT1conKeepsCount := by
  intro v s
  have hexec : exec (.putT1con v) s = .next (writeT1con (v &&& 0xFD) s) :=
    congrArg Host.Outcome.next (regPut_masked (r := .t1con) rfl (fun _ => rfl) v s)
  have h := t1conWritten_writeT1con (v &&& 0xFD) s
  obtain ⟨pre, hst⟩ := h.standing
  refine ⟨(writeT1con (v &&& 0xFD) s).t1, (writeT1con (v &&& 0xFD) s).queue, (writeT1con (v &&& 0xFD) s).seq, ?_⟩
  rw [← h.frame]
  refine ⟨hexec, field_of_standing hst Timer1.con, congrArg lowByte h.count, congrArg highByte h.count,
    field_of_standing hst Timer1.gcon, field_of_standing hst Timer1.flag, field_of_standing hst Timer1.gateTff,
    field_of_standing hst Timer1.gateLvl, field_of_standing hst Timer1.cmp,
    fun e he => h.events e (by simpa using he), fun hcs hdiv hon => ?_⟩
  refine writeT1con_stored ?_ ?_ ?_
  · exact (field_and (by decide) v).trans hcs
  · exact congrArg (2 ^ ·) ((field_and (by decide) v).trans hdiv)
  · exact Eq.trans (by simp [t1On, bit]) hon

end Sys2Proof.Machine
end

section
/-!
Proof of the statement of 43_ccp.md about PUT CCPRiL and CCPRiH (R281) with the breakpoint it recomputes (42_timers.md
R219).
-/

namespace Sys2Proof.Machine

open Sys2Proof

/-- The unit's pair moved in Timer1's compare list (R281). -/
def t1Compared (i : CcpId) (u : Ccp) (s : State) : State :=
  { s.setCcp i u with t1 := { s.t1 with cmp := setCompare i (ccpr u) s.t1.cmp } }

theorem ccprWritten_plain {i : CcpId} {u : Ccp} {s : State} (hu : isCompareMode (ccpMode u) = false) :
    ccprWritten i (s.setCcp i u) = s.setCcp i u := by
  simp [ccprWritten, hu]

theorem ccprWritten_compare {i : CcpId} {u : Ccp} {s : State} (hu : isCompareMode (ccpMode u) = true) :
    ccprWritten i (s.setCcp i u) = t1Recompute (t1Compared i u s) := by
  simp [ccprWritten, hu, t1Compared]

theorem t1Abs_compared (i : CcpId) (u : Ccp) (s : State) : t1Abs (t1Compared i u s) =
    (tin (t1Ratio s.t1.con) s.now.toNat - s.t1.anchor) / (t1Div s.t1.con : Int) := by
  cases i <;> rfl

/-- A hit as the two forms that a 16-bit compare value and a count without sign have. -/
theorem t1Hits_natCast {cmp : List (CcpId × Half)} {j : Nat} :
    t1Hits cmp (j : Int) ↔ j % 65536 = 0 ∨ ∃ e ∈ cmp, e.2.toNat = j % 65536 := by
  unfold t1Hits
  norm_cast

/-- The next hit past a count without sign, with none before it. -/
theorem IsNextHit.natural {cmp : List (CcpId × Half)} {cur b : Int} (h : IsNextHit cmp cur b) (hcur : 0 ≤ cur) :
    ∃ m : Nat, b = m ∧ cur < m ∧ (m % 65536 = 0 ∨ ∃ e ∈ cmp, e.2.toNat = m % 65536) ∧
      ∀ j : Nat, cur < j → j < m → j % 65536 ≠ 0 ∧ ∀ e ∈ cmp, e.2.toNat ≠ j % 65536 := by
  obtain ⟨m, rfl⟩ := Int.eq_ofNat_of_zero_le (hcur.trans h.ahead.le)
  refine ⟨m, rfl, h.ahead, t1Hits_natCast.1 h.hits, fun j hj hjm => ?_⟩
  have hmiss : ¬ t1Hits cmp j := fun hhit => by
    have := h.first j hj hhit
    omega
  obtain ⟨hroll, hcompare⟩ := not_or.1 (mt t1Hits_natCast.2 hmiss)
  exact ⟨hroll, fun e he hval => hcompare ⟨e, he, hval⟩⟩

/-- Settles O43, by the two cases of `ccprWritten`; the breakpoint is `t1Recompute`'s. -/
theorem compareRegisters : Obligations.CompareRegisters := by
  intro i v s moved
  have hl : exec (putRow v (.ccprl i)) s = .next (ccprWritten i (s.setCcp i { s.ccp i with rl := v })) :=
    (exec_putRow _ v s).trans (congrArg Host.Outcome.next (regPut_all rfl v s))
  have hh : exec (putRow v (.ccprh i)) s = .next (ccprWritten i (s.setCcp i { s.ccp i with rh := v })) :=
    (exec_putRow _ v s).trans (congrArg Host.Outcome.next (regPut_all rfl v s))
  have hmoved (u : Ccp) : moved u (t1Recompute (t1Compared i u s)) := by
    obtain ⟨hframe, hevents⟩ := t1Only_t1Recompute (t1Compared i u s)
    obtain ⟨value, kinds, ht1⟩ := t1_t1Recompute (t1Compared i u s)
    refine ⟨?frame, by rw [ht1]; rfl, by rw [ht1]; rfl, ?events, fun h => t1Recompute_stopped (s := t1Compared i u s) h,
      fun h hanchor => ?running⟩
    case frame => cases i <;> exact hframe
    case events => cases i <;> exact hevents
    case running =>
      obtain ⟨b, c, hplaced⟩ := t1Recompute_running (s := t1Compared i u s) h
      have hnext := hplaced.next
      rw [t1Abs_compared] at hnext
      obtain ⟨m, rfl, hahead, hhits, hfirst⟩ :=
        hnext.natural (Int.ediv_nonneg (sub_nonneg.2 hanchor) (Int.natCast_nonneg _))
      rw [ht1]
      exact ⟨m, c, _, ht1 ▸ hplaced.value, hplaced.pending, hplaced.cycle, hahead, hhits, hfirst⟩
  exact ⟨fun hmode => ⟨hl.trans (congrArg _ (ccprWritten_plain hmode)), hh.trans (congrArg _ (ccprWritten_plain hmode))⟩,
    fun hmode => ⟨⟨_, hl.trans (congrArg _ (ccprWritten_compare hmode)), hmoved _⟩,
      ⟨_, hh.trans (congrArg _ (ccprWritten_compare hmode)), hmoved _⟩⟩⟩

end Sys2Proof.Machine
end

section
/-!
Proof of the statement of 43_ccp.md about the STEP that reaches a compare match (R290) at Timer1's breakpoint
(42_timers.md R225, R229).
-/

namespace Sys2Proof.Machine

open Sys2Proof

/-! ### What a compare match does to the unit -/

/-- Every record of a shown output is a delivery of PWM_EDGE (R283). -/
theorem edgeRecords_pwmEdge {i : CcpId} {s : State} {r : OutRec} (h : r ∈ (List.finRange 4).flatMap (edgeRecords i s)) :
    ∃ k b v, r = .recv k .pwmEdge b v s.now.toNat := by
  obtain ⟨k, -, hk⟩ := List.mem_flatMap.1 h
  unfold edgeRecords at hk
  split at hk
  · cases hk
  · obtain ⟨recv, -, rfl⟩ := List.mem_map.1 hk
    exact ⟨recv, _, _, rfl⟩

/-- The level of output A after a match in mode 1 (toggle), 8 (set), 9 (clear) or 10 (interrupt alone) (R290). -/
def comparedLevel (mode : Nat) (l : Level) : Level :=
  if mode = 1 then toggled l else if mode = 8 then .H else if mode = 9 then .L else l

/-- The modes in which a match drives output A at most. -/
theorem compareAction_output {i : CcpId} {s : State} (hmode : ccpMode (s.ccp i) ∈ [1, 8, 9, 10]) :
    ∃ o : Vector Level 4, o[0] = comparedLevel (ccpMode (s.ccp i)) (s.ccp i).out[0] ∧
      compareAction i s = s.setCcp i { s.ccp i with out := o } := by
  have hset (l : Level) : ((s.ccp i).out.set 0 l)[0] = l := by simp
  simp only [List.mem_cons, List.not_mem_nil, or_false] at hmode
  unfold compareAction
  rcases hmode with h | h | h | h <;> rw [h]
  · exact ⟨_, hset _, rfl⟩
  · exact ⟨_, hset _, rfl⟩
  · exact ⟨_, hset _, rfl⟩
  · exact ⟨(s.ccp i).out, rfl, (setCcp_self s i).symm⟩

/-- The unit with its outputs `o` shown, the records of their edges kept, and its flag raised (R283, R290). -/
def compareMatched (i : CcpId) (o : Vector Level 4) (recs : List OutRec) (s : State) : State :=
  { s with out := s.out ++ recs ++ [OutRec.irq (.ccp i) s.now.toNat] }.setCcp i { s.ccp i with
    out := o, pin := Vector.ofFn (outputLevel i { s.ccp i with out := o }), flag := true }

theorem raiseIF_refresh_alone {i : CcpId} {o : Vector Level 4} {s : State} (h : s.ccpAlone i) :
    ∃ recs, (∀ r ∈ recs, ∃ k b v, r = .recv k .pwmEdge b v s.now.toNat) ∧
      raiseIF (.ccp i) (refresh signal i (s.setCcp i { s.ccp i with out := o })) = compareMatched i o recs s := by
  have halone : (s.setCcp i { s.ccp i with out := o }).ccpAlone i :=
    h.of_same (setCcp_pins _ _ _) (setCcp_subsOf _ _ _ _) (setCcp_busDepth _ _ _) (setCcp_cfg _ _ _)
  refine ⟨(List.finRange 4).flatMap (edgeRecords i (s.setCcp i { s.ccp i with out := o })), fun r hr => ?_, ?_⟩
  · obtain ⟨k, b, v, hrec⟩ := edgeRecords_pwmEdge hr
    exact ⟨k, b, v, by rw [hrec, setCcp_now]⟩
  · rw [refresh_alone halone]
    cases i <;> rfl

/-- A match of a unit that hosts alone hear, with its CLRT bit clear or set (R229, R290). -/
theorem compareMatch_alone {i : CcpId} {s : State} (h : s.ccpAlone i) (hmode : ccpMode (s.ccp i) ∈ [1, 8, 9, 10]) :
    ∃ o recs, o[0] = comparedLevel (ccpMode (s.ccp i)) (s.ccp i).out[0] ∧
      (∀ r ∈ recs, ∃ k b v, r = .recv k .pwmEdge b v s.now.toNat) ∧
      compareMatch signal i s =
        if bit (s.ccp i).tsel 7 then t1Clear (compareMatched i o recs s) else compareMatched i o recs s := by
  obtain ⟨o, hlevel, haction⟩ := compareAction_output hmode
  obtain ⟨recs, hrecs, hraise⟩ := raiseIF_refresh_alone (o := o) h
  refine ⟨o, recs, hlevel, hrecs, ?_⟩
  have hccp : (compareMatched i o recs s).ccp i = { s.ccp i with
      out := o, pin := Vector.ofFn (outputLevel i { s.ccp i with out := o }), flag := true } := setCcp_ccp_same _ _ _
  have hnotAdc : ccpMode (s.ccp i) ≠ 11 := by
    intro h11
    simp [h11] at hmode
  have hclears : (bit ((compareMatched i o recs s).ccp i).tsel 7 || ccpMode ((compareMatched i o recs s).ccp i) == 11) =
      bit (s.ccp i).tsel 7 := by
    rw [hccp]
    show (bit (s.ccp i).tsel 7 || ccpMode (s.ccp i) == 11) = _
    rw [beq_eq_false_iff_ne.2 hnotAdc, Bool.or_false]
  unfold compareMatch
  rw [haction, hraise]
  dsimp only
  rw [hclears]

/-! ### Timer1 after the match -/

theorem T1Only.trans {s t u : State} (a : T1Only s t) (b : T1Only t u) : T1Only s u :=
  ⟨by rw [b.frame, a.frame], fun e he => (b.events e he).trans (a.events e he)⟩

theorem T1Only.of_t1 {s t : State} {u : Timer1} (h : T1Only { s with t1 := u } t) : T1Only s t := ⟨h.frame, h.events⟩

/-- CLRT restarts the count from 0 at this cycle (R229). -/
theorem t1Clear_running {s : State} {c : Nat} (hrun : s.t1.run = true) (hc : s.effectCycle = c) : t1Clear s =
    t1Recompute { s with t1 := { s.t1 with anchor := tin (t1Ratio s.t1.con) c } } := by
  rw [t1Clear, if_pos hrun, hc]

theorem toNat_t1Count_running {s : State} (hrun : s.t1.run = true) {n : Nat} (hn : n < 65536) (habs : t1Abs s = n) :
    (t1Count s).toNat = n := by
  have h := toNat_count s.t1.run (t1Abs s) s.t1.held
  rw [if_pos hrun, if_pos hrun, habs] at h
  rw [t1Count, if_pos hrun, habs]
  omega

/-- Timer1's part of a match: restarted from 0 by CLRT, else standing at the matched value, and its next breakpoint
ahead. -/
structure T1Continues (n : Nat) (s t : State) : Prop extends T1Only s t where
  run : t.t1.run = true
  flag : t.t1.flag = s.t1.flag
  count : (t1Count t).toNat = n
  placed : ∃ c ins, t.pending .t1Brk = some (c, ins) ∧ s.now.toNat < c ∧
    ∀ e, e ∈ t.queue ↔ (e ∈ s.queue ∧ e.trig ≠ .t1Brk) ∨ e = ⟨c, ins, .t1Brk⟩

theorem t1Continues_recompute {s : State} {n : Nat} (hrun : s.t1.run = true) (hcount : (t1Count s).toNat = n) :
    T1Continues n s (t1Recompute s) := by
  obtain ⟨value, kinds, ht1⟩ := t1_t1Recompute s
  obtain ⟨b, c, hplaced⟩ := t1Recompute_running hrun
  exact ⟨t1Only_t1Recompute s, by rw [ht1]; exact hrun, by rw [ht1], by rw [t1Count_t1Recompute]; exact hcount,
    c, _, hplaced.pending, hplaced.ahead, hplaced.queue⟩

/-- A change of Timer1 before, with its flag left. -/
theorem T1Continues.after {n : Nat} {s t u : State} (b : T1Continues n t u) (a : T1Only s t)
    (hflag : t.t1.flag = s.t1.flag) : T1Continues n s u := by
  obtain ⟨c, ins, hpending, hahead, hqueue⟩ := b.placed
  have hnow : t.now = s.now := by rw [a.frame]
  refine ⟨a.trans b.toT1Only, b.run, b.flag.trans hflag, b.count, c, ins, hpending, hnow ▸ hahead, fun e => ?_⟩
  rw [hqueue e, and_congr_left fun he => a.events e (by simpa using he)]

theorem t1Continues_clear {s : State} (hrun : s.t1.run = true) (hc : s.effectCycle = s.now.toNat) :
    T1Continues 0 s (t1Recompute (t1Clear s)) := by
  rw [t1Clear_running hrun hc]
  generalize hr : ({ s with t1 := { s.t1 with anchor := tin (t1Ratio s.t1.con) s.now.toNat } } : State) = r
  have hcount : (t1Count r).toNat = 0 := by
    refine toNat_t1Count_running (by rw [← hr]; exact hrun) (by norm_num) ?_
    rw [← hr]
    show (tin (t1Ratio s.t1.con) s.now.toNat - tin (t1Ratio s.t1.con) s.now.toNat) / (t1Div s.t1.con : Int) = 0
    rw [sub_self, Int.zero_ediv]
  have hfirst : T1Only s (t1Recompute r) := by
    rw [← hr]
    exact (t1Only_t1Recompute _).of_t1
  obtain ⟨value, kinds, ht1⟩ := t1_t1Recompute r
  refine (t1Continues_recompute ?_ ?_).after hfirst ?_
  · rw [ht1, ← hr]
    exact hrun
  · rw [t1Count_t1Recompute, hcount]
  · rw [ht1, ← hr]

/-! ### The step -/

/-- Timer1's breakpoint where one unit's compare value is its only reason (R225). -/
theorem t1BrkCallback_compare {i : CcpId} {m : Nat} {s : State} (hcmp : s.t1.cmp = [(i, ccpr (s.ccp i))])
    (hvalue : s.t1.breakValue = some m) (hm : (ccpr (s.ccp i)).toNat = m)
    (hkind : s.t1.breakKind = { roll := false, cmp1 := decide (i = .ccp1), cmp2 := decide (i = .ccp2) }) :
    t1BrkCallback signal s = t1Recompute (compareMatch signal i s) := by
  have hbound := (ccpr (s.ccp i)).isLt
  have hhas : T1Kinds.hasCmp { roll := false, cmp1 := decide (i = .ccp1), cmp2 := decide (i = .ccp2) } i = true := by
    cases i <;> rfl
  unfold t1BrkCallback
  simp only [hkind, Bool.false_eq_true, if_false, hcmp, hvalue, List.foldl_cons, List.foldl_nil, hhas, Option.getD_some]
  rw [if_pos (by simp; omega)]

/-- The callback of a compare match: the unit's part, then Timer1's. -/
theorem t1BrkCallback_match {i : CcpId} {m : Nat} {s : State} (halone : s.ccpAlone i) (hrun : s.t1.run = true)
    (hcs : t1Cs s.t1.con = 0) (hcmp : s.t1.cmp = [(i, ccpr (s.ccp i))]) (hvalue : s.t1.breakValue = some m)
    (hm : (ccpr (s.ccp i)).toNat = m)
    (hkind : s.t1.breakKind = { roll := false, cmp1 := decide (i = .ccp1), cmp2 := decide (i = .ccp2) })
    (hanchor : s.t1.anchor + (m * t1Div s.t1.con : Nat) = (s.now.toNat : Int)) (hfire : s.effectCycle = s.now.toNat)
    (hmode : ccpMode (s.ccp i) ∈ [1, 8, 9, 10]) :
    ∃ o recs, o[0] = comparedLevel (ccpMode (s.ccp i)) (s.ccp i).out[0] ∧
      (∀ r ∈ recs, ∃ k b v, r = .recv k .pwmEdge b v s.now.toNat) ∧
      T1Continues (if bit (s.ccp i).tsel 7 then 0 else m) (compareMatched i o recs s) (t1BrkCallback signal s) := by
  obtain ⟨o, recs, hlevel, hrecs, hmatch⟩ := compareMatch_alone halone hmode
  refine ⟨o, recs, hlevel, hrecs, ?_⟩
  have ht1 : (compareMatched i o recs s).t1 = s.t1 := setCcp_t1 _ _ _
  have hnow : (compareMatched i o recs s).now = s.now := setCcp_now _ _ _
  have hrunning : (compareMatched i o recs s).t1.run = true := by rw [ht1, hrun]
  rw [t1BrkCallback_compare hcmp hvalue hm hkind, hmatch]
  split
  · refine t1Continues_clear hrunning (Eq.trans ?_ (hfire.trans (congrArg BitVec.toNat hnow.symm)))
    cases i <;> rfl
  · refine t1Continues_recompute hrunning (toNat_t1Count_running hrunning (hm ▸ (ccpr (s.ccp i)).isLt) ?_)
    have hratio : t1Ratio s.t1.con = ⟨1, 1⟩ := by rw [t1Ratio, hcs]; rfl
    have htin : tin ⟨1, 1⟩ s.now.toNat = s.t1.anchor + (m : Int) * (t1Div s.t1.con : Int) := by
      rw [← Nat.cast_mul, hanchor]
      simp [tin]
    rw [t1Abs, ht1, State.cycle, hnow, hratio, htin, add_sub_cancel_left]
    exact Int.mul_ediv_cancel _ (by exact_mod_cast (t1Div_pos s.t1.con).ne')

theorem toggled_eq (l : Level) : toggled l = if l = .H then .L else .H := by cases l <;> rfl

/-- Settles O47, by `t1BrkCallback_match` at the one event that is due. -/
theorem compareMatches : Obligations.CompareMatches := by
  intro i rest m s hdue halone _ u mode c hrun hcs hcmp hvalue hm hkind hanchor hmode
  obtain ⟨⟨hqueue, hf, hb, hpd⟩, hn, hhead, hrest⟩ := hdue
  let fired : State := { s with now := s.now + 1, queue := rest, firing := some (.t1Brk, c) }
  have hc : fired.now.toNat = c := now_succ hn
  obtain ⟨o, recs, hlevel, hrecs, hnext⟩ := t1BrkCallback_match (s := fired) (halone.of_same rfl rfl rfl rfl) hrun hcs
    hcmp hvalue hm hkind (by rw [hc]; exact hanchor) hc.symm hmode
  generalize ht : t1BrkCallback signal fired = t at hnext
  obtain ⟨c', ins, hpending, hahead, hmem⟩ := hnext.placed
  have hmatched : (compareMatched i o recs fired).queue = rest := setCcp_queue _ _ _
  have hnow : (compareMatched i o recs fired).now = s.now + 1 := setCcp_now _ _ _
  have hnow' : t.now = s.now + 1 := (congrArg State.now hnext.frame).trans hnow
  have hccp (j : CcpId) : t.ccp j = (compareMatched i o recs fired).ccp j := by rw [hnext.frame]; rfl
  have hunit : t.ccp i = { u with out := o, pin := Vector.ofFn (outputLevel i { u with out := o }), flag := true } :=
    (hccp i).trans (setCcp_ccp_same _ _ _)
  rw [hnow, now_succ hn] at hahead
  refine ⟨{ t with firing := none },
    step_one ⟨⟨hqueue, hf, hb, hpd⟩, hn, hhead, hrest⟩ (by rw [← ht]; rfl) fun e he => ?due, hnow', ?level, fun k => ?pin, congrArg Ccp.flag hunit, ⟨recs, ?records, fun r hr => ?heard⟩,
    (toNat_bytes _).trans hnext.count, hnext.run, hnext.flag.trans (congrArg Timer1.flag (setCcp_t1 _ _ _)),
    fun j hj => (hccp j).trans (setCcp_ccp_other _ _ _ _ hj), fun y => ?timers, ?faults, ?events, c', ins, hpending, hahead⟩
  case due =>
    show t.now.toNat < e.cycle
    rw [hnow', now_succ hn]
    rcases (hmem e).1 he with ⟨h, -⟩ | rfl
    · exact hrest e (hmatched ▸ h)
    · exact hahead
  case level =>
    refine (congrArg (fun u : Ccp => u.out[0]) hunit).trans (hlevel.trans ?_)
    show comparedLevel mode u.out[0] = _
    simp only [List.mem_cons, List.not_mem_nil, or_false] at hmode
    rcases hmode with h | h | h | h
    · simp [comparedLevel, toggled_eq, h]
    · simp [comparedLevel, h]
    · simp [comparedLevel, h]
    · simp [comparedLevel, h]
  case pin =>
    show (t.ccp i).pin[k] = outputLevel i (t.ccp i) k
    rw [hunit]
    exact Vector.getElem_ofFn k.isLt
  case records =>
    refine (congrArg State.out hnext.frame).trans ((setCcp_out _ _ _).trans ?_)
    rw [hc]
  case heard =>
    obtain ⟨k, b, v, hrec⟩ := hrecs r hr
    exact ⟨k, b, v, by rw [hrec, hc]⟩
  case timers =>
    have htm : t.tm y = (compareMatched i o recs fired).tm y := by rw [hnext.frame]; rfl
    exact htm.trans (setCcp_tm _ _ _ _)
  case faults => exact (congrArg State.faults hnext.frame).trans (setCcp_faults _ _ _)
  case events => exact fun e he => (hnext.events e he).trans (by rw [hmatched])

end Sys2Proof.Machine
end

section
/-!
Laws of the Timer2 family's breakpoint (42_timers.md R239): the cycle of a position where the timer counts cycles, and
what placing the breakpoint leaves in the queue.
-/

namespace Sys2Proof.Machine

open Sys2Proof

/-! ### The cycle of a position -/

theorem cycleOf_cycles (q : Rat) : cycleOf ⟨1, 1⟩ q = q.ceil := by simp [cycleOf]

/-- A position at or past the present cycle is reached in that cycle, where the timer counts cycles (R202, R239). -/
theorem t2CycleOf_cycles {s : State} {x : T2Id} {q : Rat} {n : Nat} (hratio : (s.tm x).ratio = ⟨1, 1⟩)
    (hq : (((s.tm x).anchor : Rat) + q).ceil = (n : Int)) (hn : s.now.toNat ≤ n) : t2CycleOf s x q = n := by
  rw [t2CycleOf, hratio, cycleOf_cycles, hq, Int.toNat_natCast]
  exact max_eq_right hn

theorem ceil_add_natCast (a : Int) (k : Nat) : ((a : Rat) + (k : Rat)).ceil = a + k := by
  rw [← Int.cast_natCast, ← Int.cast_add, Rat.ceil_intCast]

/-! ### Placing the breakpoint -/

theorem t2Candidates_no_pwm {due : Bool} {s : State} {x : T2Id} (hpwm : (s.tm x).pwm = []) :
    t2Candidates due s x = [if due || decide (t2Abs s x ≤ ((s.tm x).pr.toNat : Int)) then (t2PeriodAt s x, periodBit)
      else (((256 * t2Div (s.tm x).con : Nat) : Rat), wrapBit)] := by
  rw [t2Candidates, t2Duties, hpwm]
  rfl

theorem t2Div_pos (con : Byte) : 0 < t2Div con := Nat.two_pow_pos _

/-- A timer anchored at this cycle counts 0 (R232). -/
theorem t2Abs_anchored {s : State} {x : T2Id} (hratio : (s.tm x).ratio = ⟨1, 1⟩)
    (hanchor : (s.tm x).anchor = (s.now.toNat : Int)) : t2Abs s x = 0 := by
  rw [t2Abs, hratio, hanchor]
  simp [tin, State.cycle]

/-- The breakpoint stands at the position `q`, due at its cycle, alone of the timer in the queue (R239). -/
structure T2Placed (x : T2Id) (q : Rat) (s t : State) : Prop where
  pending : t.pending (.tBrk x) = some (t2CycleOf s x q, s.seq)
  queue : ∀ e, e ∈ t.queue ↔ (e ∈ s.queue ∧ e.trig ≠ .tBrk x) ∨ e = ⟨t2CycleOf s x q, s.seq, .tBrk x⟩
  mask : (t.tm x).breakMask = t2MaskAt s x q (t2Candidates false s x)

theorem t2Recompute_running {x : T2Id} {s : State} (hrun : (s.tm x).run = true) {q : Rat}
    (hq : leastKey (t2Candidates false s x) = q) : T2Placed x q s (t2Recompute x s) := by
  have hplace : t2Recompute x s = reschedule (.tBrk x) (t2CycleOf s x q) (s.setTm x { s.tm x with
      breakValue := some q, breakMask := t2MaskAt s x q (t2Candidates false s x) }) := by
    rw [t2Recompute, t2Place]
    dsimp only
    rw [if_pos hrun, hq]
  rw [hplace]
  refine ⟨?_, fun e => ?_, ?_⟩
  · rw [pending_reschedule_same, setTm_seq]
  · rw [mem_reschedule, setTm_seq, setTm_queue, or_comm]
  · rw [reschedule_tm, setTm_tm_same]

theorem t2Recompute_stopped {x : T2Id} {s : State} (hrun : (s.tm x).run = false) :
    (t2Recompute x s).pending (.tBrk x) = none := by
  rw [t2Recompute, t2Place]
  dsimp only
  rw [if_neg (ne_true_of_eq_false hrun)]
  exact pending_cancel_same _ _

/-- Without PWM units and counting cycles, the breakpoint is the period match, or past PRx the wrap (R239). -/
theorem t2Recompute_no_pwm {x : T2Id} {s : State} {v : Nat} (hrun : (s.tm x).run = true) (hpwm : (s.tm x).pwm = [])
    (hratio : (s.tm x).ratio = ⟨1, 1⟩)
    (hanchor : (s.tm x).anchor = (s.now.toNat : Int) - (v : Int) * (t2Div (s.tm x).con : Int)) (hv : v < 256) :
    (t2Recompute x s).pending (.tBrk x) = some (s.now.toNat +
      ((if v ≤ (s.tm x).pr.toNat then (s.tm x).pr.toNat + 1 else 256) - v) * t2Div (s.tm x).con, s.seq) := by
  have habs : t2Abs s x = v := by
    have htin : tin ⟨1, 1⟩ s.now.toNat = s.now.toNat := by simp [tin]
    rw [t2Abs, hratio, hanchor, State.cycle, htin]
    exact ediv_anchor _ _ _ (t2Div_pos _)
  have hcycle (k : Nat) (hk : v ≤ k) :
      t2CycleOf s x ((k * t2Div (s.tm x).con : Nat) : Rat) = s.now.toNat + (k - v) * t2Div (s.tm x).con := by
    refine t2CycleOf_cycles hratio ?_ (Nat.le_add_right _ _)
    rw [ceil_add_natCast, hanchor]
    push_cast [hk]
    ring
  have hplaced := t2Recompute_running hrun rfl
  rw [t2Candidates_no_pwm hpwm, habs, Bool.false_or, leastKey.eq_2] at hplaced
  by_cases hle : v ≤ (s.tm x).pr.toNat
  · rw [if_pos (by simpa using hle)] at hplaced
    rw [hplaced.pending, if_pos hle]
    exact congrArg (fun c => some (c, s.seq)) (hcycle _ (by omega))
  · rw [if_neg (by simpa using hle)] at hplaced
    rw [hplaced.pending, if_neg hle]
    exact congrArg (fun c => some (c, s.seq)) (hcycle _ (by omega))

end Sys2Proof.Machine
end

section
/-!
Proofs of the statements of 42_timers.md about PUT TMRx (R232, R234), PRx (R235) and TxCLKCON (R236).
-/

namespace Sys2Proof.Machine

open Sys2Proof

/-! ### The family restarted -/

/-- The timer set to the count `v`, from an anchor where it runs and held where it does not (R233). -/
def t2Restarted (x : T2Id) (v : Byte) (s : State) : State := s.setTm x
  (if t2RunCond s x then { s.tm x with
      run := true, ratio := t2RatioNow s x
      anchor := tin (t2RatioNow s x) s.cycle - (v.toNat : Int) * (t2Div (s.tm x).con : Int) }
    else { s.tm x with run := false, held := v })

theorem t2Update_eq (x : T2Id) (v : Byte) (s : State) : t2Update x v s = t2Recompute x (t2Restarted x v s) := by
  unfold t2Update t2Restarted
  dsimp only
  split <;> rfl

/-- A restart that runs is anchored at this cycle. -/
theorem anchor_t2Restarted {x : T2Id} {v : Byte} {s : State} (hrun : ((t2Restarted x v s).tm x).run = true)
    (hratio : ((t2Restarted x v s).tm x).ratio = ⟨1, 1⟩) : ((t2Restarted x v s).tm x).anchor =
      (s.now.toNat : Int) - (v.toNat : Int) * (t2Div ((t2Restarted x v s).tm x).con : Int) := by
  unfold t2Restarted at hrun hratio ⊢
  rw [setTm_tm_same] at hrun hratio ⊢
  split at hrun
  · next hcond =>
    rw [if_pos hcond] at hratio ⊢
    have hnow : t2RatioNow s x = ⟨1, 1⟩ := hratio
    simp [hnow, tin, State.cycle]
  · cases hrun

/-- The frame of a change of one timer and its breakpoint's event. -/
theorem T2Only.next {x : T2Id} {s t : State} (h : T2Only x s t) :
    { s with queue := t.queue, seq := t.seq }.setTm x (t.tm x) = t :=
  h.frame.symm

/-- The breakpoint after a restart, with no PWM unit and counting cycles (R239). -/
theorem t2Update_pending {x : T2Id} {v : Byte} {s t : State} (ht : t = t2Update x v s) :
    ((t.tm x).run = false → t.pending (.tBrk x) = none) ∧
    ((t.tm x).run = true → (t.tm x).ratio = ⟨1, 1⟩ → (t.tm x).pwm = [] → ∃ ins, t.pending (.tBrk x) =
      some (s.now.toNat + ((if v.toNat ≤ (t.tm x).pr.toNat then (t.tm x).pr.toNat + 1 else 256) - v.toNat) *
        t2Div (t.tm x).con, ins)) := by
  rw [t2Update_eq] at ht
  obtain ⟨value, mask, htm⟩ := tm_t2Place false x (t2Restarted x v s)
  have htm' : t.tm x = { (t2Restarted x v s).tm x with breakValue := value, breakMask := mask } := ht ▸ htm
  have hnow : (t2Restarted x v s).now = s.now := setTm_now _ _ _
  rw [htm']
  refine ⟨fun hrun => ht ▸ t2Recompute_stopped hrun, fun hrun hratio hpwm => ⟨(t2Restarted x v s).seq, ?_⟩⟩
  have hpending := t2Recompute_no_pwm hrun hpwm hratio (hnow ▸ anchor_t2Restarted hrun hratio) v.isLt
  rw [ht, hpending, hnow]

/-- Settles O37, by `t2CountsFrom_t2Update` for the count and the frame and `t2Update_pending` for the breakpoint. -/
theorem putTmrxRestarts : Obligations.PutTmrxRestarts := by
  intro x v s
  have hexec : exec (putRow v (.tmr x)) s = .next (t2Update x v s) :=
    (exec_putRow _ v s).trans (congrArg Host.Outcome.next (regPut_all rfl v s))
  have hcounts := t2CountsFrom_t2Update x v s
  obtain ⟨hstopped, hrunning⟩ := t2Update_pending (x := x) (v := v) (s := s) rfl
  refine ⟨(t2Update x v s).tm x, (t2Update x v s).queue, (t2Update x v s).seq, ?_⟩
  rw [hcounts.next]
  exact ⟨hexec, hcounts.count, hcounts.standing, fun e he => hcounts.events e (by simpa using he), hstopped, hrunning⟩

/-! ### PUT PRx and TxCLKCON -/

theorem t2Count_setPr (x : T2Id) (v : Byte) (s : State) :
    t2Count (s.setTm x { s.tm x with pr := v }) x = t2Count s x := by
  simp [t2Count, t2Abs, State.cycle]

/-- What a PUT of TxCLKCON leaves: the count, all of the timer but the byte, and everything outside it. -/
structure TclkconWritten (x : T2Id) (c : Byte) (s t : State) : Prop extends T2Only x s t where
  standing : (t.tm x).standing = { s.tm x with clkcon := c }.standing
  count : t2Count t x = t2Count s x

theorem T2Only.refl (x : T2Id) (s : State) : T2Only x s s := ⟨(setTm_self s x).symm, fun _ _ => Iff.rfl⟩

theorem tclkconWritten_writeTclkcon (x : T2Id) (c : Byte) (s : State) : TclkconWritten x c s (writeTclkcon x c s) := by
  unfold writeTclkcon
  dsimp only
  split
  · next hsame =>
    subst hsame
    exact ⟨.refl x s, rfl, rfl⟩
  · have h := t2CountsFrom_t2Update x (t2Count s x) (s.setTm x { s.tm x with clkcon := c })
    exact ⟨h.of_setTm, h.standing.trans (congrArg Timer2.standing (setTm_tm_same _ _ _)), h.count⟩

/-- What the run bit, count and breakpoint leave of a timer stands where `Timer2.standing` does. -/
theorem field_of_t2_standing {t u : Timer2} (h : t.standing = u.standing) {α : Type} (f : Timer2 → α)
    (hf : ∀ u : Timer2, f u.standing = f u := by exact fun _ => rfl) : f t = f u :=
  (hf t).symm.trans ((congrArg f h).trans (hf u))

/-- Settles O38: PRx by what placing the breakpoint writes, TxCLKCON by `tclkconWritten_writeTclkcon`. -/
theorem putPeriodAndClockKeepCount : Obligations.PutPeriodAndClockKeepCount := by
  intro x v s
  refine ⟨?period, ?clock⟩
  case period =>
    have hexec : exec (putRow v (.pr x)) s = .next (writePr x v s) :=
      (exec_putRow _ v s).trans (congrArg Host.Outcome.next (regPut_all rfl v s))
    have honly : T2Only x s (writePr x v s) := (t2Only_t2Place _ _ _).of_setTm
    obtain ⟨value, mask, htm⟩ : ∃ b m, (writePr x v s).tm x =
        { s.tm x with pr := v, breakValue := b, breakMask := m } := by
      obtain ⟨b, m, h⟩ := tm_t2Place false x (s.setTm x { s.tm x with pr := v })
      rw [setTm_tm_same] at h
      exact ⟨b, m, h⟩
    refine ⟨(writePr x v s).tm x, (writePr x v s).queue, (writePr x v s).seq, ?_⟩
    rw [honly.next]
    exact ⟨hexec, (t2Count_t2Recompute _ _).trans (t2Count_setPr _ _ _), by rw [htm],
      fun e he => honly.events e (by simpa using he)⟩
  case clock =>
    have hexec : exec (putRow v (.tclkcon x)) s = .next (writeTclkcon x (v &&& 0x0F) s) :=
      (exec_putRow _ v s).trans (congrArg Host.Outcome.next (regPut_masked rfl (fun _ => rfl) v s))
    have h := tclkconWritten_writeTclkcon x (v &&& 0x0F) s
    have hst := h.standing
    refine ⟨(writeTclkcon x (v &&& 0x0F) s).tm x, (writeTclkcon x (v &&& 0x0F) s).queue,
      (writeTclkcon x (v &&& 0x0F) s).seq, ?_⟩
    rw [h.next]
    exact ⟨hexec, h.count, field_of_t2_standing hst Timer2.clkcon, field_of_t2_standing hst Timer2.con,
      field_of_t2_standing hst Timer2.pr, field_of_t2_standing hst Timer2.post, field_of_t2_standing hst Timer2.armed,
      field_of_t2_standing hst Timer2.ers, field_of_t2_standing hst Timer2.flag,
      fun e he => h.events e (by simpa using he), fun hsame => if_pos hsame⟩

end Sys2Proof.Machine
end

section
/-!
Proof of the statement of 42_timers.md about the reactions of the Timer2 family to its reset signal (R238, R240, R245).
-/

namespace Sys2Proof.Machine

open Sys2Proof

/-! ### What a policy does on a change between the two levels -/

/-- A level reset is active at one level at most (R240). -/
theorem hltLevelReset_excl {m : HltPolicy} {old new : Level} (hne : new ≠ old) (h : hltLevelReset m new = true) :
    hltLevelReset m old = false := by
  unfold hltLevelReset at h ⊢
  split at h
  · exact beq_eq_false_iff_ne.2 fun hold => hne ((beq_iff_eq.1 h).trans hold.symm)
  · exact beq_eq_false_iff_ne.2 fun hold => hne ((beq_iff_eq.1 h).trans hold.symm)
  · cases h

/-- A level start is satisfied at exactly one of the two levels (R240). -/
theorem hltStartLevel_excl {m : HltPolicy} {old new : Level} (hold : old ≠ .Z) (hnew : new ≠ .Z) (hne : new ≠ old)
    (h : hltLevelStart m = true) : hltStartLevel m new = !hltStartLevel m old := by
  unfold hltLevelStart at h
  unfold hltStartLevel
  cases hs : policyStart m with
  | levelH => cases old <;> cases new <;> simp_all
  | levelL => cases old <;> cases new <;> simp_all
  | _ => simp [hs] at h

/-- A policy that does not start on a level has no level to start at. -/
theorem hltStartLevel_of_no_levelStart {m : HltPolicy} (h : hltLevelStart m = false) (l : Level) :
    hltStartLevel m l = false := by
  simp only [hltLevelStart, Bool.or_eq_false_iff] at h
  simp [hltStartLevel, h.1, h.2]

/-- A policy that starts on a level has no edge to start at. -/
theorem hltStartEdge_of_levelStart {m : HltPolicy} (h : hltLevelStart m = true) (old new : Level) :
    hltStartEdge m old new = false := by
  unfold hltLevelStart at h
  unfold hltStartEdge
  cases hs : policyStart m <;> simp_all

/-- The start state after a change of the signal (R238, R240). -/
def ersArmed (m : HltPolicy) (old new : Level) (armed : Bool) : Bool :=
  if hltLevelStart m then hltStartLevel m new else hltStartEdge m old new || armed

/-- RESET and STOP_ZERO are the actions that zero the count (R245). -/
theorem hltAction_zeroes {m : HltPolicy} {old new : Level} (hne : new ≠ old) :
    (hltAction m old new = .reset ∨ hltAction m old new = .stopZero) ↔
      (hltResetEdge m old new || hltLevelReset m new) = true := by
  have hexcl := hltLevelReset_excl (m := m) hne
  unfold hltAction
  cases hltResetEdge m old new with
  | true => simp
  | false =>
    cases hlevel : hltLevelReset m new with
    | true => simp [hexcl hlevel]
    | false =>
      simp only [Bool.false_eq_true, if_false, Bool.false_and, Bool.or_false, iff_false]
      split
      · simp
      · split <;> simp

/-- START is a start edge or the coming of a start's level (R245). -/
theorem hltAction_start {m : HltPolicy} {old new : Level} (h : hltAction m old new = .start) :
    (hltStartEdge m old new || (hltStartLevel m new && !hltStartLevel m old)) = true := by
  unfold hltAction at h
  split_ifs at h
  assumption

/-- STOP is the closing of the gate or the end of a start's level (R245). -/
theorem hltAction_stop {m : HltPolicy} {old new : Level} (h : hltAction m old new = .stop) :
    (hltGateOk m old && !hltGateOk m new || hltStartLevel m old && !hltStartLevel m new) = true := by
  unfold hltAction at h
  split_ifs at h
  assumption

/-- NOP is no start and no end of one (R245). -/
theorem hltAction_nop {m : HltPolicy} {old new : Level} (h : hltAction m old new = .nop) :
    hltStartEdge m old new = false ∧ (hltStartLevel m new = true → hltStartLevel m old = true) ∧
      (hltStartLevel m old = true → hltStartLevel m new = true) := by
  unfold hltAction at h
  split_ifs at h
  simp_all

/-- START arms (R245). -/
theorem ersArmed_of_start {m : HltPolicy} {old new : Level} (h : hltAction m old new = .start) (armed : Bool) :
    ersArmed m old new armed = true := by
  have hstart := hltAction_start h
  unfold ersArmed
  cases hlevel : hltLevelStart m with
  | true =>
    rw [hltStartEdge_of_levelStart hlevel, Bool.false_or, Bool.and_eq_true] at hstart
    exact hstart.1
  | false =>
    rw [hltStartLevel_of_no_levelStart hlevel, Bool.false_and, Bool.or_false] at hstart
    simp [hstart]

/-- STOP ends the run: the gate closes or the level of the start has gone (R245). -/
theorem hltCounts_of_stop {m : HltPolicy} {old new : Level} (h : hltAction m old new = .stop) (on armed : Bool) :
    hltCounts m on (ersArmed m old new armed) new = false := by
  rcases Bool.or_eq_true_iff.1 (hltAction_stop h) with hgate | hlevel
  · have hclosed : hltGateOk m new = false := by simpa using (Bool.and_eq_true_iff.1 hgate).2
    simp [hltCounts, hclosed]
  · obtain ⟨hheld, hgone⟩ := Bool.and_eq_true_iff.1 hlevel
    have hstart : hltLevelStart m = true := by
      by_contra hno
      rw [hltStartLevel_of_no_levelStart (eq_false_of_ne_true hno)] at hheld
      cases hheld
    have hneeds : policyStart m ≠ .none := by
      intro hnone
      simp [hltLevelStart, hnone] at hstart
    have harmed : ersArmed m old new armed = false := by
      rw [ersArmed, if_pos hstart]
      simpa using hgone
    simp [hltCounts, harmed, hneeds]

/-- NOP leaves the start state (R245). -/
theorem ersArmed_of_nop {m : HltPolicy} {old new : Level} (hold : old ≠ .Z) (hnew : new ≠ .Z) (hne : new ≠ old)
    (h : hltAction m old new = .nop) (armed : Bool) : ersArmed m old new armed = armed := by
  obtain ⟨hedge, hcomes, hgoes⟩ := hltAction_nop h
  unfold ersArmed
  cases hlevel : hltLevelStart m with
  | true =>
    have hflips := hltStartLevel_excl hold hnew hne hlevel
    cases hwas : hltStartLevel m old <;> simp_all
  | false => simp [hedge]

/-! ### The input -/

/-- A new level of the signal: what it leaves of the timer before its restart (R238). -/
theorem t2ErsInput_eq {x : T2Id} {e : Level} {s : State} (hon : t2On (s.tm x).con = true) (he : e ≠ (s.tm x).ers) :
    let m := t2Policy s.cfg (s.tm x).hlt
    t2ErsInput x e s = t2Update x
      (if hltResetEdge m (s.tm x).ers e || hltLevelReset m e then 0 else t2Count s x)
      (s.setTm x { s.tm x with ers := e, armed := ersArmed m (s.tm x).ers e (s.tm x).armed }) := by
  intro m
  have harm : t2ArmLevel x (s.setTm x { s.tm x with
        ers := e, armed := if hltStartEdge m (s.tm x).ers e then true else (s.tm x).armed }) =
      s.setTm x { s.tm x with ers := e, armed := ersArmed m (s.tm x).ers e (s.tm x).armed } := by
    unfold t2ArmLevel ersArmed
    dsimp only
    rw [setTm_tm_same, setTm_cfg, setTm_setTm]
    cases hlevel : hltLevelStart m with
    | true => exact if_pos (show (true && t2On (s.tm x).con) = true by rw [hon]; rfl)
    | false =>
      refine (if_neg Bool.false_ne_true).trans ?_
      cases hltStartEdge m (s.tm x).ers e <;> rfl
  unfold t2ErsInput
  dsimp only
  rw [if_neg he, harm]
  unfold t2ResetCount
  dsimp only
  rw [setTm_tm_same, setTm_cfg, hon, Bool.true_and]
  cases hltResetEdge m (s.tm x).ers e with
  | true => rfl
  | false => rfl

theorem t2On_of_want {cfg : Cfg} {u : Timer2} {d : SigDesc} (h : t2RstWant cfg u = some d) : t2On u.con = true := by
  unfold t2RstWant at h
  split at h
  · next hsel => exact (Bool.and_eq_true_iff.1 hsel).1
  · cases h

theorem lowZ_of_ne {l : Level} (h : l ≠ .Z) : lowZ l = l := by
  cases l with
  | L => rfl
  | H => rfl
  | Z => exact absurd rfl h

/-- Settles O42: DRIVE tells the timer by `exec_drive_one_sink`, and its restart by `t2ErsInput_eq` does what the
action says of the count, the start state and the run. -/
theorem resetSignalReactions : Obligations.ResetSignalReactions := by
  intro x p l s hp hsinks hsrc hwant hlZ hersZ hne hlvl hpd act
  have hon := t2On_of_want hwant
  generalize hd : drivenAt p l s = d
  have htm (y : T2Id) : d.tm y = s.tm y := by rw [← hd]; rfl
  have hcfg : d.cfg = s.cfg := by rw [← hd]; rfl
  have hcount : t2Count d x = t2Count s x := by rw [← hd]; rfl
  have hsubs : d.subs = s.subs := by rw [← hd]; rfl
  have hinput : sinkNotify (wire (2 * s.cfg.busDepthMax)) (.tRst x) p s.pins[p].lvl l d = t2ErsInput x l d := by
    show t2RstSink x p l d = _
    have hselects : selectsPin (some (.pin p)) p = true := beq_self_eq_true _
    rw [t2RstSink, hcfg, htm, hwant, if_pos hselects, lowZ_of_ne hlZ]
  have hers := t2ErsInput_eq (x := x) (e := l) (s := d) (by rw [htm]; exact hon) (by rw [htm]; exact hne)
  simp only [hcfg, htm, hcount] at hers
  have hexec := exec_drive_one_sink hp hsinks hsrc hlvl hpd
  rw [hd, hinput, hers] at hexec
  let m := t2Policy s.cfg (s.tm x).hlt
  let w : Byte := if hltResetEdge m (s.tm x).ers l || hltLevelReset m l then 0 else t2Count s x
  let u : Timer2 := { s.tm x with ers := l, armed := ersArmed m (s.tm x).ers l (s.tm x).armed }
  have hnext : T2CountsFrom x w (d.setTm x u) (t2Update x w (d.setTm x u)) := t2CountsFrom_t2Update _ _ _
  have honly : T2Only x d (t2Update x w (d.setTm x u)) := hnext.of_setTm
  have hst : ((t2Update x w (d.setTm x u)).tm x).standing = u.standing :=
    hnext.standing.trans (congrArg Timer2.standing (setTm_tm_same _ _ _))
  have hrun : ((t2Update x w (d.setTm x u)).tm x).run = t2RunCond (d.setTm x u) x :=
    congrArg Prod.fst (run2_t2Update x w (d.setTm x u))
  refine ⟨_, hexec, field_of_t2_standing hst Timer2.ers, fun h => ?zeroed, fun hreset hzero => ?kept, fun h => ?started,
    fun h => ?stopped, fun h => ?nothing, field_of_t2_standing hst Timer2.con, ?out, ?subs, fun j => ?ccp, fun y hy => ?tm,
    fun e he => ?events⟩
  case zeroed => exact hnext.count.trans (if_pos ((hltAction_zeroes hne).1 h))
  case kept =>
    exact hnext.count.trans (if_neg fun h => ((hltAction_zeroes hne).2 h).elim hreset hzero)
  case started => exact (field_of_t2_standing hst Timer2.armed).trans (ersArmed_of_start h _)
  case stopped =>
    have hcounts : hltCounts m (t2On u.con) u.armed u.ers = false := hltCounts_of_stop h _ _
    refine hrun.trans ?_
    rw [t2RunCond, setTm_tm_same, setTm_cfg, hcfg, hcounts]
    rfl
  case nothing => exact (field_of_t2_standing hst Timer2.armed).trans (ersArmed_of_nop hersZ hlZ hne h _)
  case out => exact (congrArg State.out honly.frame).trans ((setTm_out _ _ _).trans (congrArg State.out hd.symm))
  case subs => exact (congrArg State.subs honly.frame).trans ((setTm_subs _ _ _).trans hsubs)
  case ccp => exact (honly.ccp j).trans (by rw [← hd]; rfl)
  case tm =>
    have hother : (t2Update x w (d.setTm x u)).tm y = d.tm y := by
      rw [honly.frame, setTm_tm_other _ _ _ _ hy]
      rfl
    exact hother.trans (htm y)
  case events => exact (honly.events e (by simpa using he)).trans (iff_of_eq (congrArg (e ∈ ·.queue) hd.symm))

end Sys2Proof.Machine
end

section
/-!
Proof of the statement of 42_timers.md about the STEP that reaches a period match of the Timer2 family (R239, R241), and
the laws of the period match that the PWM statements share.
-/

namespace Sys2Proof.Machine

open Sys2Proof

/-! ### The period match up to the end of the run -/

/-- The timer's count set back to 0, the match published to hosts alone, and the postscaler's step with its flag
(R241). -/
def t2Matched (x : T2Id) (s : State) : State :=
  { s with out := s.out ++ s.heard .t2Match x.num 1 s.now.toNat ++
      (if (s.tm x).post.cnt = 0 then [OutRec.irq (.tmrx x) s.now.toNat] else []) }.setTm x { s.tm x with
    anchor := (s.tm x).anchor + ((((s.tm x).pr.toNat + 1) * t2Div (s.tm x).con : Nat) : Int)
    post := (preStep (s.tm x).post).1
    flag := (s.tm x).flag || decide ((s.tm x).post.cnt = 0) }

theorem preStep_tick (p : Prescaler) : (preStep p).2 = decide (p.cnt = 0) := by
  unfold preStep
  split
  · next h => rw [decide_eq_true h]
  · next h => rw [decide_eq_false h]

theorem preStep_cnt (p : Prescaler) : (preStep p).1.cnt = if p.cnt = 0 then p.div - 1 else p.cnt - 1 := by
  unfold preStep
  split <;> rfl

/-- The postscaler's step: its tick raises the flag, with one record (R241, R440). -/
theorem t2Postscale_setTm (x : T2Id) (u : Timer2) (s : State) : t2Postscale x (s.setTm x u) =
    { s with out := s.out ++ (if u.post.cnt = 0 then [OutRec.irq (.tmrx x) s.now.toNat] else []) }.setTm x
      { u with post := (preStep u.post).1, flag := u.flag || decide (u.post.cnt = 0) } := by
  have htick := preStep_tick u.post
  unfold t2Postscale
  rw [setTm_tm_same]
  by_cases hcnt : u.post.cnt = 0
  · rw [decide_eq_true hcnt] at htick
    simp only [htick, if_true, hcnt, setTm_setTm, decide_true, Bool.or_true]
    cases x <;> rfl
  · rw [decide_eq_false hcnt] at htick
    simp only [htick, Bool.false_eq_true, if_false, hcnt, setTm_setTm, decide_false, Bool.or_false, List.append_nil]

/-- The start of a period match where hosts alone hear T2_MATCH (R241). -/
theorem t2Postscale_publish_hosts {x : T2Id} {s : State} (hd : s.busDepth < s.cfg.busDepthMax)
    (hr : s.hostsOnly .t2Match) :
    t2Postscale x (signal (.publish .t2Match x.num 1) (t2Advance x ((s.tm x).pr.toNat + 1) s)) = t2Matched x s := by
  have hpublish (u : Timer2) : signal (.publish .t2Match x.num 1) (s.setTm x u) =
      { s with out := s.out ++ s.heard .t2Match x.num 1 s.now.toNat }.setTm x u := by
    rw [publish_hosts]
    · cases x <;> rfl
    · rwa [setTm_busDepth, setTm_cfg]
    · unfold State.hostsOnly
      rwa [setTm_subsOf]
  unfold t2Advance
  dsimp only
  rw [hpublish, t2Postscale_setTm]
  rfl

theorem t2Period_eq {x : T2Id} {s : State} (hd : s.busDepth < s.cfg.busDepthMax) (hr : s.hostsOnly .t2Match) :
    t2Period signal x s = ((t2RunAfter x (t2EndRun x (t2Matched x s))).tm x).pwm.foldl
      (fun s i => periodStart signal i s) (t2RunAfter x (t2EndRun x (t2Matched x s))) := by
  unfold t2Period
  dsimp only
  rw [t2Postscale_publish_hosts hd hr]

/-! ### The end of the run -/

/-- A free-running timer goes on (R241). -/
theorem t2EndRun_free {x : T2Id} {s : State} (h : policyEnd (t2Policy s.cfg (s.tm x).hlt) = .free) :
    t2EndRun x s = s := by
  unfold t2EndRun hltEndAction
  dsimp only
  rw [h]
  rfl

theorem t2EndRun_monostable {x : T2Id} {s : State} (h : policyEnd (t2Policy s.cfg (s.tm x).hlt) = .monostable) :
    t2EndRun x s = s.setTm x { s.tm x with armed := false } := by
  unfold t2EndRun hltEndAction
  dsimp only
  rw [h]
  rfl

/-- A one-shot clears ON and with it the subscription of its reset source (R237, R241). -/
theorem t2EndRun_oneshot {x : T2Id} {s : State} (h : policyEnd (t2Policy s.cfg (s.tm x).hlt) = .oneshot) :
    t2EndRun x s = (s.subscribe (.tRst x) (.tRst x) none).setTm x
      { s.tm x with con := (s.tm x).con &&& 0x7F, armed := false } := by
  have hcon : setBit (s.tm x).con 7 false = (s.tm x).con &&& 0x7F := setBit7_eq _ false
  have hwant : t2RstWant s.cfg { s.tm x with con := (s.tm x).con &&& 0x7F, armed := false } = none :=
    t2RstWant_off _ (by simp [t2On, bit])
  unfold t2EndRun hltEndAction
  dsimp only
  rw [h, hcon]
  refine (t2Resubscribe_setTm _ _ _ _).trans ?_
  rw [hwant, ersAfter_of_none _ (.inr rfl)]
  rfl

/-- What the end of a run leaves: all of the timer but ON and its start state, and everything outside it but the wiring
(R241). -/
structure EndsRun (x : T2Id) (s t : State) : Prop where
  timer : { t.tm x with con := 0, armed := false } = { s.tm x with con := 0, armed := false }
  now : t.now = s.now
  queue : t.queue = s.queue
  seq : t.seq = s.seq
  out : t.out = s.out

theorem endsRun_t2EndRun (x : T2Id) (s : State) : EndsRun x s (t2EndRun x s) := by
  cases h : policyEnd (t2Policy s.cfg (s.tm x).hlt) with
  | free =>
    rw [t2EndRun_free h]
    exact ⟨rfl, rfl, rfl, rfl, rfl⟩
  | oneshot =>
    rw [t2EndRun_oneshot h]
    refine ⟨by rw [setTm_tm_same], ?_, ?_, ?_, ?_⟩
    · simp only [setTm_now, State.subscribe]
    · simp only [setTm_queue, State.subscribe]
    · simp only [setTm_seq, State.subscribe]
    · simp only [setTm_out, State.subscribe]
  | monostable =>
    rw [t2EndRun_monostable h]
    exact ⟨by rw [setTm_tm_same], setTm_now _ _ _, setTm_queue _ _ _, setTm_seq _ _ _, setTm_out _ _ _⟩

/-- Whatever does not read ON and the start state stands at the end of a run. -/
theorem EndsRun.field {x : T2Id} {s t : State} (h : EndsRun x s t) {α : Type} (f : Timer2 → α)
    (hf : ∀ u : Timer2, f { u with con := 0, armed := false } = f u := by exact fun _ => rfl) : f (t.tm x) = f (s.tm x) :=
  (hf _).symm.trans ((congrArg f h.timer).trans (hf _))

/-! ### The next period, or the stop -/

/-- A timer whose count has come back to 0 runs on into its next period where its run condition holds, and else stops
at 0; its breakpoint is placed anew (R239, R241). -/
structure T2Restarts (x : T2Id) (s t : State) : Prop extends T2Only x s t where
  standing : (t.tm x).standing = (s.tm x).standing
  count : t2Count t x = 0
  ahead : (∀ e ∈ s.queue, s.now.toNat < e.cycle) → ∀ e ∈ t.queue, s.now.toNat < e.cycle
  running : t2RunCond s x = true → (t.tm x).run = true ∧
    t.pending (.tBrk x) = some (s.now.toNat + ((s.tm x).pr.toNat + 1) * t2Div (s.tm x).con, s.seq)
  stopped : t2RunCond s x = false → (t.tm x).run = false ∧ t.pending (.tBrk x) = none

/-- What an event of the queue is where its trigger has one pending event, or none. -/
theorem mem_queue_of_only {x : T2Id} {s t : State} (h : T2Only x s t) {e : Event} (he : e ∈ t.queue) :
    e ∈ s.queue ∨ e.trig = .tBrk x := by
  by_cases htrig : e.trig = .tBrk x
  · exact .inr htrig
  · exact .inl ((h.events e (by simpa using htrig)).1 he)

theorem t2Restarts_recompute {x : T2Id} {s : State} (hrun : (s.tm x).run = true) (hpwm : (s.tm x).pwm = [])
    (hratio : (s.tm x).ratio = ⟨1, 1⟩) (hanchor : (s.tm x).anchor = (s.now.toNat : Int)) :
    T2Restarts x s (t2Recompute x (t2RunAfter x s)) := by
  cases hcond : t2RunCond s x with
  | true =>
    have hafter : t2RunAfter x s = s := if_pos hcond
    obtain ⟨value, mask, htm⟩ : ∃ b m, (t2Recompute x s).tm x = { s.tm x with breakValue := b, breakMask := m } :=
      tm_t2Place false x s
    have hpending := t2Recompute_no_pwm (v := 0) hrun hpwm hratio (by rw [hanchor]; simp) (by norm_num)
    rw [if_pos (Nat.zero_le _), Nat.sub_zero] at hpending
    have hplaced := t2Recompute_running hrun rfl
    have hcycle := congrArg (Option.map Prod.fst) (hplaced.pending.symm.trans hpending)
    rw [hafter]
    refine ⟨t2Only_t2Place _ _ _, by rw [htm]; rfl, ?count, fun hq e he => ?ahead,
      fun _ => ⟨by rw [htm]; exact hrun, hpending⟩,
      fun h => absurd h (by simp [hcond])⟩
    case count =>
      rw [t2Count_t2Recompute, t2Count, if_pos hrun, t2Abs_anchored hratio hanchor]
      rfl
    case ahead =>
      have hpos : 0 < ((s.tm x).pr.toNat + 1) * t2Div (s.tm x).con := Nat.mul_pos (Nat.succ_pos _) (t2Div_pos _)
      rcases (hplaced.queue e).1 he with ⟨h, -⟩ | rfl
      · exact hq e h
      · simp only [Option.map_some, Option.some.injEq] at hcycle
        show s.now.toNat < t2CycleOf s x _
        omega
  | false =>
    have hafter : t2RunAfter x s = s.setTm x { s.tm x with run := false, held := 0 } := if_neg (ne_true_of_eq_false hcond)
    have hstopped : ((s.setTm x { s.tm x with run := false, held := 0 }).tm x).run = false := by rw [setTm_tm_same]
    obtain ⟨value, mask, htm⟩ := tm_t2Place false x (s.setTm x { s.tm x with run := false, held := 0 })
    have hnone := t2Recompute_stopped hstopped
    have honly : T2Only x s (t2Recompute x (s.setTm x { s.tm x with run := false, held := 0 })) :=
      (t2Only_t2Place _ _ _).of_setTm
    rw [setTm_tm_same] at htm
    rw [hafter]
    refine ⟨honly, (congrArg Timer2.standing htm).trans rfl, ?count, fun hq e he => ?ahead,
      fun h => absurd h (by simp [hcond]), fun _ => ⟨congrArg Timer2.run htm, hnone⟩⟩
    case count => rw [t2Count_t2Recompute, t2Count, hstopped, setTm_tm_same]; rfl
    case ahead =>
      exact (mem_queue_of_only honly he).elim (hq e) fun htrig => absurd htrig ((pending_eq_none _ _).1 hnone e he)

/-! ### The step -/

theorem t2DutyLeft_no_pwm {x : T2Id} {s : State} (hpwm : (s.tm x).pwm = []) : t2DutyLeft s x = false := by
  rw [t2DutyLeft, t2Duties, hpwm]
  simp

/-- The callback of a period match of a timer with no PWM unit, where hosts alone hear it (R241). -/
theorem t2BrkCallback_period {x : T2Id} {s : State} (hmask : (s.tm x).breakMask = periodBit) (hpwm : (s.tm x).pwm = [])
    (hd : s.busDepth < s.cfg.busDepthMax) (hr : s.hostsOnly .t2Match) :
    t2BrkCallback signal x s = t2Recompute x (t2RunAfter x (t2EndRun x (t2Matched x s))) := by
  have hlist : ((t2RunAfter x (t2EndRun x (t2Matched x s))).tm x).pwm = [] := by
    have h := (stands_t2RunAfter x (t2EndRun x (t2Matched x s))).sameLists.after (sameLists_t2EndRun x (t2Matched x s))
    rw [h.pwm, t2Matched, setTm_tm_same]
    exact hpwm
  have hperiod : t2Period signal x s = t2RunAfter x (t2EndRun x (t2Matched x s)) := by
    rw [t2Period_eq hd hr, hlist]
    rfl
  have hbits : maskHas periodBit periodBit = true ∧ maskHas periodBit wrapBit = false := by decide
  unfold t2BrkCallback
  simp only [hmask, hpwm, List.foldl_nil, hbits, t2DutyLeft_no_pwm hpwm, hperiod, Bool.and_false, Bool.false_eq_true,
    if_false, if_true]

/-- A match leaves the run condition: it reads neither the count nor the postscaler. -/
theorem t2RunCond_matched (x : T2Id) (s : State) : t2RunCond (t2Matched x s) x = t2RunCond s x := by
  simp only [t2RunCond, t2Matched, setTm_tm_same, setTm_cfg, setTm_sleeping]

theorem t2Policy_matched (x : T2Id) (s : State) :
    t2Policy (t2Matched x s).cfg ((t2Matched x s).tm x).hlt = t2Policy s.cfg (s.tm x).hlt := by
  simp only [t2Matched, setTm_tm_same, setTm_cfg]

/-- A one-shot does not run on, for its ON is clear (R241). -/
theorem t2RunCond_oneshot {x : T2Id} {s : State} (h : policyEnd (t2Policy s.cfg (s.tm x).hlt) = .oneshot) :
    t2RunCond (t2EndRun x s) x = false := by
  rw [t2EndRun_oneshot h, t2RunCond, setTm_tm_same]
  simp [hltCounts, t2On, bit]

/-- A monostable that needs a start does not run on, for it is disarmed (R241). -/
theorem t2RunCond_monostable {x : T2Id} {s : State} (h : policyEnd (t2Policy s.cfg (s.tm x).hlt) = .monostable)
    (hstart : policyStart (t2Policy s.cfg (s.tm x).hlt) ≠ .none) : t2RunCond (t2EndRun x s) x = false := by
  rw [t2EndRun_monostable h, t2RunCond, setTm_tm_same, setTm_cfg]
  simp [hltCounts, hstart]

/-- What the callback of a period match leaves, after the end of the run. -/
theorem t2Restarts_match {x : T2Id} {s : State} (hmask : (s.tm x).breakMask = periodBit) (hpwm : (s.tm x).pwm = [])
    (hd : s.busDepth < s.cfg.busDepthMax) (hr : s.hostsOnly .t2Match) (hrun : (s.tm x).run = true)
    (hratio : (s.tm x).ratio = ⟨1, 1⟩)
    (hanchor : (s.tm x).anchor + (((s.tm x).pr.toNat + 1) * t2Div (s.tm x).con : Nat) = (s.now.toNat : Int)) :
    T2Restarts x (t2EndRun x (t2Matched x s)) (t2BrkCallback signal x s) := by
  have hends := endsRun_t2EndRun x (t2Matched x s)
  have htm : (t2Matched x s).tm x = _ := setTm_tm_same _ _ _
  have hnow : (t2EndRun x (t2Matched x s)).now = s.now := hends.now.trans (setTm_now _ _ _)
  rw [t2BrkCallback_period hmask hpwm hd hr]
  refine t2Restarts_recompute ?_ ?_ ?_ ?_
  · exact (hends.field Timer2.run).trans ((congrArg Timer2.run htm).trans hrun)
  · exact (hends.field Timer2.pwm).trans ((congrArg Timer2.pwm htm).trans hpwm)
  · exact (hends.field Timer2.ratio).trans ((congrArg Timer2.ratio htm).trans hratio)
  · rw [hnow]
    exact (hends.field Timer2.anchor).trans ((congrArg Timer2.anchor htm).trans hanchor)

/-- Settles O41, by `t2Restarts_match` at the one event that is due, and the end of the run by its three kinds. -/
theorem timer2PeriodMatch : Obligations.Timer2PeriodMatch := by
  intro x k rest s hs hn hq hrest hrun hcond hratio hpwm hmask hanchor hr hd c fin
  obtain ⟨hqueue, hf, hb, hpd⟩ := hs
  let fired : State := { s with now := s.now + 1, queue := rest, firing := some (.tBrk x, c) }
  have hnow : fired.now.toNat = c := now_succ hn
  have hrestarts := t2Restarts_match (x := x) (s := fired) hmask hpwm (show s.busDepth < s.cfg.busDepthMax by omega) hr hrun
    hratio (by rw [hnow]; exact hanchor)
  have hends := endsRun_t2EndRun x (t2Matched x fired)
  have hpolicy : t2Policy (t2Matched x fired).cfg ((t2Matched x fired).tm x).hlt = t2Policy s.cfg (s.tm x).hlt :=
    t2Policy_matched x fired
  have htm : (t2Matched x fired).tm x = _ := setTm_tm_same _ _ _
  generalize hT : t2BrkCallback signal x fired = T at hrestarts
  generalize hG : t2EndRun x (t2Matched x fired) = G at hrestarts hends
  have hGnow : G.now = s.now + 1 := hends.now.trans (setTm_now _ _ _)
  have hGqueue : G.queue = rest := hends.queue.trans (setTm_queue _ _ _)
  have hTnow : T.now = s.now + 1 := (congrArg State.now hrestarts.frame).trans ((setTm_now _ _ _).trans hGnow)
  have hstands {α : Type} (f : Timer2 → α) (hf : ∀ u : Timer2, f u.standing = f u := by exact fun _ => rfl) :
      f (T.tm x) = f (G.tm x) := field_of_t2_standing hrestarts.standing f hf
  refine ⟨{ T with firing := none }, step_one ⟨⟨hqueue, hf, hb, hpd⟩, hn, ⟨k, hq⟩, hrest⟩ (by rw [← hT]; rfl)
    fun e he => ?due, hTnow, ?out, ?flag, ?post, hrestarts.count, fun h => ?free, fun h => ?oneshot, fun h => ?monostable⟩
  case due =>
    have hahead := hrestarts.ahead (by rw [hGnow, now_succ hn, hGqueue]; exact hrest) e he
    show T.now.toNat < e.cycle
    rwa [hTnow, ← hGnow]
  case out =>
    refine (congrArg State.out hrestarts.frame).trans ((setTm_out _ _ _).trans (hends.out.trans ?_))
    refine (setTm_out _ _ _).trans ?_
    rw [hnow]
    rfl
  case flag => exact (hstands Timer2.flag).trans ((hends.field Timer2.flag).trans (congrArg Timer2.flag htm))
  case post =>
    have hpost := (hstands Timer2.post).trans ((hends.field Timer2.post).trans (congrArg Timer2.post htm))
    exact (congrArg Prescaler.cnt hpost).trans (preStep_cnt _)
  case free =>
    have hsame : G = t2Matched x fired := hG.symm.trans (t2EndRun_free (by rw [hpolicy]; exact h))
    have hgoes : t2RunCond G x = true := by
      rw [hsame, t2RunCond_matched]
      exact hcond
    obtain ⟨hruns, hpending⟩ := hrestarts.running hgoes
    refine ⟨(hstands Timer2.con).trans (by rw [hsame, htm]; rfl), hruns, hpending.trans ?_⟩
    rw [hGnow, now_succ hn, hends.seq, hsame, htm, t2Matched, setTm_seq]
    rfl
  case oneshot =>
    have hend : policyEnd (t2Policy (t2Matched x fired).cfg ((t2Matched x fired).tm x).hlt) = .oneshot := by
      rw [hpolicy]
      exact h
    have hGtm : G.tm x =
        { (t2Matched x fired).tm x with con := ((t2Matched x fired).tm x).con &&& 0x7F, armed := false } := by
      rw [← hG, t2EndRun_oneshot hend, setTm_tm_same]
    obtain ⟨hstops, hnone⟩ := hrestarts.stopped (hG ▸ t2RunCond_oneshot hend)
    exact ⟨(hstands Timer2.con).trans (by rw [hGtm, htm]; rfl), hstops, (hstands Timer2.armed).trans (by rw [hGtm]), hnone⟩
  case monostable =>
    have hend : policyEnd (t2Policy (t2Matched x fired).cfg ((t2Matched x fired).tm x).hlt) = .monostable := by
      rw [hpolicy]
      exact h
    have hGtm : G.tm x = { (t2Matched x fired).tm x with armed := false } := by
      rw [← hG, t2EndRun_monostable hend, setTm_tm_same]
    refine ⟨(hstands Timer2.con).trans (by rw [hGtm, htm]; rfl), (hstands Timer2.armed).trans (by rw [hGtm]),
      fun hstart => ?_⟩
    exact hrestarts.stopped (hG ▸ t2RunCond_monostable hend (by rw [hpolicy]; exact hstart))

end Sys2Proof.Machine
end

section
/-!
Laws of a PWM unit in single-output steering (43_ccp.md R284, R295, R296) and of the breakpoint of its timer (42_timers.md
R239, R480), and the proof about the STEP that starts a PWM period (R241, R295, R297).
-/

namespace Sys2Proof.Machine

open Sys2Proof

/-! ### The unit's output -/

/-- The unit with the modulated level `m` on output A and its outputs shown (R283, R284). -/
def modulated (i : CcpId) (m : Level) (u : Ccp) : Ccp := { u with
  mod := m, out := u.out.set (0 : Fin 4) m
  pin := Vector.ofFn (outputLevel i { u with mod := m, out := u.out.set (0 : Fin 4) m }) }

/-- The steering of a unit with no bridge (R284). -/
theorem steering_single {i : CcpId} {s : State} (h : i = .ccp1 → ccpPm (s.ccp i) = 0) : s.steering i = .single := by
  cases i with
  | ccp1 => rw [State.steering, h rfl]; rfl
  | ccp2 => rfl

/-- A stored unit shows its outputs to hosts alone (R283). -/
theorem refresh_setCcp_alone {i : CcpId} {u : Ccp} {s : State} (h : s.ccpAlone i) : ∃ recs,
    refresh signal i (s.setCcp i u) =
      { s with out := s.out ++ recs }.setCcp i { u with pin := Vector.ofFn (outputLevel i u) } := by
  refine ⟨(List.finRange 4).flatMap (edgeRecords i (s.setCcp i u)), ?_⟩
  rw [refresh_alone ((ccpOnly_setCcp i s u).ccpAlone h)]
  cases i <;> rfl

/-- `SetMod` of a single output that hosts alone hear (R284). -/
theorem setMod_single {i : CcpId} {m : Level} {u : Ccp} {s : State} (h : s.ccpAlone i) (hs : i = .ccp1 → ccpPm u = 0) :
    ∃ recs, setMod signal i m (s.setCcp i u) = { s with out := s.out ++ recs }.setCcp i (modulated i m u) := by
  have hsteer : (s.setCcp i u).steering i = .single :=
    steering_single fun hi => by rw [setCcp_ccp_same]; exact hs hi
  obtain ⟨recs, hshown⟩ := refresh_setCcp_alone (u := { u with mod := m, out := u.out.set (0 : Fin 4) m }) h
  refine ⟨recs, ?_⟩
  unfold setMod
  rw [setCcp_ccp_same, setCcp_setCcp]
  simp only [hsteer, setOutput, setCcp_ccp_same, setCcp_setCcp]
  exact hshown

/-! ### The duty match and the start of a period -/

theorem dutyMatch_single {i : CcpId} {s : State} (h : s.ccpAlone i) (hs : i = .ccp1 → ccpPm (s.ccp i) = 0) :
    ∃ recs, dutyMatch signal i s =
      { s with out := s.out ++ recs }.setCcp i (modulated i .L { s.ccp i with dutyArmed := false }) :=
  setMod_single h hs

/-- A period starts with the duty latched and armed where it is neither 0 nor whole (R295, R297). -/
theorem periodStart_single {i : CcpId} {s : State} (h : s.ccpAlone i) (hs : i = .ccp1 → ccpPm (s.ccp i) = 0)
    (hon : (s.ccp i).shutdown = false) : ∃ recs, periodStart signal i s =
      { s with out := s.out ++ recs }.setCcp i (modulated i (if ccpDuty (s.ccp i) = 0 then .L else .H) { s.ccp i with
        dcLatched := ccpDuty (s.ccp i)
        dutyArmed := decide (0 < ccpDuty (s.ccp i) ∧
          ccpDuty (s.ccp i) < 4 * ((s.tm (s.pwmTimer i)).pr.toNat + 1)) }) := by
  unfold periodStart
  dsimp only
  rw [if_neg (ne_true_of_eq_false hon)]
  generalize hfull : 4 * ((s.tm (s.pwmTimer i)).pr.toNat + 1) = full
  by_cases hzero : ccpDuty (s.ccp i) = 0
  · have harmed : decide (0 < ccpDuty (s.ccp i) ∧ ccpDuty (s.ccp i) < full) = false := decide_eq_false (by omega)
    rw [if_pos hzero, if_pos hzero, harmed]
    exact setMod_single h hs
  · rw [if_neg hzero, if_neg hzero]
    split
    · have harmed : decide (0 < ccpDuty (s.ccp i) ∧ ccpDuty (s.ccp i) < full) = false := decide_eq_false (by omega)
      rw [harmed]
      exact setMod_single h hs
    · have harmed : decide (0 < ccpDuty (s.ccp i) ∧ ccpDuty (s.ccp i) < full) = true := decide_eq_true (by omega)
      rw [harmed]
      exact setMod_single h hs

/-! ### The position of a duty match -/

/-- A duty's position in quarter clocks against a whole position (R239). -/
theorem quarter_lt_iff (n k : Nat) : mkRat (n : Int) 4 < (k : Rat) ↔ n < 4 * k := by
  rw [Rat.mkRat_eq_div, Nat.cast_ofNat, div_lt_iff₀ (by norm_num), mul_comm]
  exact_mod_cast Iff.rfl

theorem lt_quarter_iff (n k : Nat) : (k : Rat) < mkRat (n : Int) 4 ↔ 4 * k < n := by
  rw [Rat.mkRat_eq_div, Nat.cast_ofNat, lt_div_iff₀ (by norm_num), mul_comm]
  exact_mod_cast Iff.rfl

/-- The first cycle at or past a position in quarter clocks (R202, R239). -/
theorem ceil_add_quarter (a : Int) (n : Nat) : ((a : Rat) + mkRat (n : Int) 4).ceil = a + ((n + 3) / 4 : Nat) := by
  have hq : (a : Rat) + mkRat (n : Int) 4 = ((4 * a + n : Int) : Rat) / ((4 : Nat) : Rat) := by
    rw [Rat.mkRat_eq_div]
    push_cast
    ring
  have hceil (q : Rat) : q.ceil = ⌈q⌉ := Rat.ceil_eq_neg_floor_neg q
  rw [hq, hceil, Rat.ceil_intCast_div_natCast]
  push_cast
  omega

/-! ### The breakpoint of a period with a duty -/

section
variable {x : T2Id} {s : State} (hratio : (s.tm x).ratio = ⟨1, 1⟩) (hanchor : (s.tm x).anchor = (s.now.toNat : Int))
include hratio hanchor

theorem t2CycleOf_period :
    t2CycleOf s x (t2PeriodAt s x) = s.now.toNat + ((s.tm x).pr.toNat + 1) * t2Div (s.tm x).con := by
  refine t2CycleOf_cycles hratio ?_ (Nat.le_add_right _ _)
  rw [t2PeriodAt, ceil_add_natCast, hanchor]
  push_cast
  ring

theorem t2CycleOf_duty (n : Nat) : t2CycleOf s x (mkRat (n : Int) 4) = s.now.toNat + (n + 3) / 4 := by
  refine t2CycleOf_cycles hratio ?_ (Nat.le_add_right _ _)
  rw [ceil_add_quarter, hanchor]
  push_cast
  rfl

variable {i : CcpId} (hpwm : (s.tm x).pwm = [i])
include hpwm

/-- At a period's start the candidates are the period match and the duty, where one is armed (R239). -/
theorem t2Candidates_start : t2Candidates false s x = (t2PeriodAt s x, periodBit) ::
    (if (s.ccp i).dutyArmed then [(mkRat ((s.ccp i).dcLatched * t2Div (s.tm x).con : Nat) 4, dutyBit i)] else []) := by
  have hduties : t2Duties s x =
      if (s.ccp i).dutyArmed then [(mkRat ((s.ccp i).dcLatched * t2Div (s.tm x).con : Nat) 4, dutyBit i)] else [] := by
    rw [t2Duties, hpwm, List.filter_cons]
    split <;> rfl
  rw [t2Candidates, t2Abs_anchored hratio hanchor, hduties]
  simp

/-- With no duty armed the period match is the breakpoint. -/
theorem t2Placed_period (hrun : (s.tm x).run = true) (harmed : (s.ccp i).dutyArmed = false) :
    T2Placed x (t2PeriodAt s x) s (t2Recompute x s) ∧ ((t2Recompute x s).tm x).breakMask = periodBit := by
  have hcands := t2Candidates_start hratio hanchor hpwm
  rw [harmed, if_neg Bool.false_ne_true] at hcands
  have hplaced := t2Recompute_running (q := t2PeriodAt s x) hrun (by rw [hcands]; rfl)
  refine ⟨hplaced, hplaced.mask.trans ?_⟩
  rw [hcands, t2MaskAt, List.foldl_cons, List.foldl_nil, if_pos (.inl rfl)]
  show 0 ||| periodBit = periodBit
  decide

/-- A duty armed before the period's end is the breakpoint, and on the cycle of the period match it is one with it
(R239, R480). -/
theorem t2Placed_duty (hrun : (s.tm x).run = true) (harmed : (s.ccp i).dutyArmed = true) {n : Nat}
    (hn : (s.ccp i).dcLatched * t2Div (s.tm x).con = n) (hlt : n < 4 * (((s.tm x).pr.toNat + 1) * t2Div (s.tm x).con)) :
    T2Placed x (mkRat (n : Int) 4) s (t2Recompute x s) ∧ ((t2Recompute x s).tm x).breakMask =
      if (n + 3) / 4 = ((s.tm x).pr.toNat + 1) * t2Div (s.tm x).con then dutyBit i ||| periodBit else dutyBit i := by
  have hbefore : mkRat (n : Int) 4 < t2PeriodAt s x := (quarter_lt_iff _ _).2 hlt
  have hcands := t2Candidates_start hratio hanchor hpwm
  rw [harmed, if_pos rfl, hn] at hcands
  have hleast : leastKey (t2Candidates false s x) = mkRat (n : Int) 4 := by
    rw [hcands]
    exact min_eq_right hbefore.le
  have hplaced := t2Recompute_running hrun hleast
  refine ⟨hplaced, hplaced.mask.trans ?_⟩
  have hsame : t2CycleOf s x (t2PeriodAt s x) = t2CycleOf s x (mkRat (n : Int) 4) ↔
      (n + 3) / 4 = ((s.tm x).pr.toNat + 1) * t2Div (s.tm x).con := by
    rw [t2CycleOf_period hratio hanchor, t2CycleOf_duty hratio hanchor]
    omega
  rw [hcands, t2MaskAt, List.foldl_cons, List.foldl_cons, List.foldl_nil]
  simp only [hbefore.ne', hsame, true_and, false_or, true_or, if_true]
  split <;> cases i <;> rfl

/-- The breakpoint that follows a period's start: the duty where it is neither 0 nor whole, else the period's end. -/
theorem t2Placed_start (hrun : (s.tm x).run = true) {dc : Nat} (hdc : (s.ccp i).dcLatched = dc)
    (harmed : (s.ccp i).dutyArmed = decide (0 < dc ∧ dc < 4 * ((s.tm x).pr.toNat + 1))) :
    let p := t2Div (s.tm x).con
    ∃ q, T2Placed x q s (t2Recompute x s) ∧
      t2CycleOf s x q = s.now.toNat +
        (if 0 < dc ∧ dc < 4 * ((s.tm x).pr.toNat + 1) then (dc * p + 3) / 4 else ((s.tm x).pr.toNat + 1) * p) ∧
      s.now.toNat < t2CycleOf s x q ∧
      ((t2Recompute x s).tm x).breakMask = (if 0 < dc ∧ dc < 4 * ((s.tm x).pr.toNat + 1) then
        (if (dc * p + 3) / 4 = ((s.tm x).pr.toNat + 1) * p then dutyBit i ||| periodBit else dutyBit i) else periodBit) := by
  intro p
  have hp : 0 < p := t2Div_pos _
  by_cases hduty : 0 < dc ∧ dc < 4 * ((s.tm x).pr.toNat + 1)
  · have hlt : dc * p < 4 * (((s.tm x).pr.toNat + 1) * p) := by
      rw [← Nat.mul_assoc]
      exact Nat.mul_lt_mul_of_pos_right hduty.2 (t2Div_pos _)
    rw [decide_eq_true hduty] at harmed
    obtain ⟨hplaced, hmask⟩ := t2Placed_duty hratio hanchor hpwm hrun harmed (n := dc * p) (by rw [hdc]) hlt
    have hpos : 0 < dc * p := Nat.mul_pos hduty.1 hp
    have hcycle := t2CycleOf_duty hratio hanchor (dc * p)
    rw [if_pos hduty, if_pos hduty]
    exact ⟨_, hplaced, hcycle, by omega, hmask⟩
  · rw [decide_eq_false hduty] at harmed
    obtain ⟨hplaced, hmask⟩ := t2Placed_period hratio hanchor hpwm hrun harmed
    have hpos : 0 < ((s.tm x).pr.toNat + 1) * p := Nat.mul_pos (Nat.succ_pos _) hp
    have hcycle := t2CycleOf_period hratio hanchor
    rw [if_neg hduty, if_neg hduty]
    exact ⟨_, hplaced, hcycle, lt_of_lt_of_eq (Nat.lt_add_of_pos_right hpos) hcycle.symm, hmask⟩

end

/-! ### The event that ends a period and starts the next -/

/-- What the duty, the steering and the timer of a unit are read from. -/
structure SameSetup (u v : Ccp) : Prop where
  rl : v.rl = u.rl
  rh : v.rh = u.rh
  con : v.con = u.con
  tsel : v.tsel = u.tsel
  shutdown : v.shutdown = u.shutdown

theorem SameSetup.ccpDuty {u v : Ccp} (h : SameSetup u v) : ccpDuty v = ccpDuty u := by
  simp only [Sys2Proof.Machine.ccpDuty, h.rl, h.rh, h.con, h.tsel]

/-- A duty match of the cycle comes first, and leaves no duty armed up to the period's end (R239, R480). -/
theorem dutyPhase {i : CcpId} {x : T2Id} {s : State} (h : s.ccpAlone i) (hs : i = .ccp1 → ccpPm (s.ccp i) = 0)
    (hmask : (s.tm x).breakMask = periodBit ∧
        ((s.ccp i).dutyArmed = true → 4 * ((s.tm x).pr.toNat + 1) < (s.ccp i).dcLatched) ∨
      (s.tm x).breakMask = dutyBit i ||| periodBit) :
    ∃ recs v, (if maskHas (s.tm x).breakMask (dutyBit i) then dutyMatch signal i s else s) =
        { s with out := s.out ++ recs }.setCcp i v ∧ SameSetup (s.ccp i) v ∧
      (v.dutyArmed = true → 4 * ((s.tm x).pr.toNat + 1) < v.dcLatched) ∧
      maskHas (s.tm x).breakMask periodBit = true ∧ maskHas (s.tm x).breakMask wrapBit = false := by
  rcases hmask with ⟨hperiod, hlate⟩ | hboth
  · have hno : maskHas periodBit (dutyBit i) = false := by cases i <;> decide
    refine ⟨[], s.ccp i, ?_, ⟨rfl, rfl, rfl, rfl, rfl⟩, hlate, by rw [hperiod]; decide, by rw [hperiod]; decide⟩
    rw [hperiod, hno, if_neg Bool.false_ne_true, List.append_nil]
    exact (setCcp_self s i).symm
  · have hduty : maskHas (dutyBit i ||| periodBit) (dutyBit i) = true := by cases i <;> decide
    obtain ⟨recs, hmatch⟩ := dutyMatch_single h hs
    refine ⟨recs, modulated i .L { s.ccp i with dutyArmed := false }, ?_, ⟨rfl, rfl, rfl, rfl, rfl⟩,
      fun harmed => absurd harmed Bool.false_ne_true, ?_, ?_⟩
    · rw [hboth, hduty, if_pos rfl, hmatch]
    · rw [hboth]
      cases i <;> decide
    · rw [hboth]
      cases i <;> decide

/-- A duty past the period's end is not due at it. -/
theorem t2DutyLeft_late {x : T2Id} {i : CcpId} {s : State} (hpwm : (s.tm x).pwm = [i])
    (hlate : (s.ccp i).dutyArmed = true → 4 * ((s.tm x).pr.toNat + 1) < (s.ccp i).dcLatched) : t2DutyLeft s x = false := by
  have hnone : ∀ e ∈ t2Duties s x, ¬ e.1 ≤ t2PeriodAt s x := by
    intro e he
    rw [t2Duties, hpwm, List.filter_cons] at he
    split at he
    · next harmed =>
      obtain rfl := List.mem_singleton.1 he
      rw [not_le]
      refine (lt_quarter_iff _ _).2 ?_
      rw [← Nat.mul_assoc]
      exact Nat.mul_lt_mul_of_pos_right (hlate harmed) (t2Div_pos _)
    · cases he
  rw [t2DutyLeft, Bool.and_eq_false_iff]
  refine .inr (List.any_eq_false.2 fun e he => ?_)
  rw [decide_eq_true_iff]
  exact fun h => hnone e he h.1

/-- A free-running timer whose run condition holds starts the next period of its one PWM unit (R241). -/
theorem t2Period_free {x : T2Id} {i : CcpId} {s : State} (hd : s.busDepth < s.cfg.busDepthMax) (hr : s.hostsOnly .t2Match)
    (hfree : policyEnd (t2Policy s.cfg (s.tm x).hlt) = .free) (hcond : t2RunCond s x = true) (hpwm : (s.tm x).pwm = [i]) :
    t2Period signal x s = periodStart signal i (t2Matched x s) := by
  have hend : t2EndRun x (t2Matched x s) = t2Matched x s := t2EndRun_free (by rw [t2Policy_matched, hfree])
  have hafter : t2RunAfter x (t2Matched x s) = t2Matched x s := if_pos (by rw [t2RunCond_matched, hcond])
  have hlist : ((t2Matched x s).tm x).pwm = [i] := by rw [t2Matched, setTm_tm_same]; exact hpwm
  rw [t2Period_eq hd hr, hend, hafter, hlist]
  rfl

/-- The unit's duty phase done, its timer's next period is the unit's: what stands before the breakpoint is placed. -/
structure PeriodBegun (x : T2Id) (i : CcpId) (s t : State) : Prop where
  unit : ∃ v : Ccp, t.ccp i = modulated i (if ccpDuty (s.ccp i) = 0 then .L else .H) { v with
    dcLatched := ccpDuty (s.ccp i)
    dutyArmed := decide (0 < ccpDuty (s.ccp i) ∧ ccpDuty (s.ccp i) < 4 * ((s.tm x).pr.toNat + 1)) }
  timer : t.tm x = (t2Matched x s).tm x
  units : ∀ j, j ≠ i → t.ccp j = s.ccp j
  now : t.now = s.now
  queue : t.queue = s.queue
  t1 : t.t1 = s.t1
  faults : t.faults = s.faults

/-- The period's start after the duty phase, which left the unit's setup. -/
theorem periodBegun_matched {x : T2Id} {i : CcpId} {s : State} (h : s.ccpAlone i) (hs : i = .ccp1 → ccpPm (s.ccp i) = 0)
    (hon : (s.ccp i).shutdown = false) (hx : s.pwmTimer i = x) {v : Ccp} (hv : SameSetup (s.ccp i) v) (recs : List OutRec) :
    PeriodBegun x i s (periodStart signal i (t2Matched x ({ s with out := s.out ++ recs }.setCcp i v))) := by
  let s1 : State := { s with out := s.out ++ recs }.setCcp i v
  let m : State := t2Matched x s1
  have hunit : m.ccp i = v := (setTm_ccp _ _ _ _).trans (setCcp_ccp_same _ _ _)
  have htimers (y : T2Id) : s1.tm y = s.tm y := setCcp_tm _ _ _ _
  have hpr : (m.tm x).pr = (s.tm x).pr := (congrArg Timer2.pr (setTm_tm_same _ _ _)).trans
    (show (s1.tm x).pr = _ by rw [htimers])
  have halone : m.ccpAlone i := h.of_same ((setTm_pins _ _ _).trans (setCcp_pins _ _ _))
    ((setTm_subsOf _ _ _ _).trans (setCcp_subsOf _ _ _ _)) ((setTm_busDepth _ _ _).trans (setCcp_busDepth _ _ _))
    ((setTm_cfg _ _ _).trans (setCcp_cfg _ _ _))
  have hpwmTimer : m.pwmTimer i = x := by rw [State.pwmTimer, hunit, ccpPtsel, hv.tsel]; exact hx
  obtain ⟨recs', hstart⟩ := periodStart_single halone (fun hi => by rw [hunit, ccpPm, hv.con]; exact hs hi)
    (by rw [hunit, hv.shutdown, hon])
  rw [hpwmTimer, hunit, hpr, hv.ccpDuty] at hstart
  show PeriodBegun x i s (periodStart signal i m)
  rw [hstart]
  refine ⟨⟨v, setCcp_ccp_same _ _ _⟩, ?_, fun j hj => ?_, ?_, ?_, ?_, ?_⟩
  · have htm : m.tm x = (t2Matched x s).tm x := by
      refine (setTm_tm_same _ _ _).trans (Eq.trans ?_ (setTm_tm_same _ _ _).symm)
      rw [htimers]
    exact (setCcp_tm _ _ _ _).trans htm
  · exact (setCcp_ccp_other _ _ _ _ hj).trans ((setTm_ccp _ _ _ _).trans (setCcp_ccp_other _ _ _ _ hj))
  · exact (setCcp_now _ _ _).trans ((setTm_now _ _ _).trans (setCcp_now _ _ _))
  · exact (setCcp_queue _ _ _).trans ((setTm_queue _ _ _).trans (setCcp_queue _ _ _))
  · exact (setCcp_t1 _ _ _).trans ((setTm_t1 _ _ _).trans (setCcp_t1 _ _ _))
  · exact (setCcp_faults _ _ _).trans ((setTm_faults _ _ _).trans (setCcp_faults _ _ _))

/-- The callback of a PWM timer's period end (R241, R480): the duty phase, the next period, and the breakpoint. -/
theorem t2BrkCallback_pwm {x : T2Id} {i : CcpId} {s : State} (h : s.ccpAlone i) (hs : i = .ccp1 → ccpPm (s.ccp i) = 0)
    (hon : (s.ccp i).shutdown = false) (hx : s.pwmTimer i = x) (hr : s.hostsOnly .t2Match)
    (hfree : policyEnd (t2Policy s.cfg (s.tm x).hlt) = .free) (hcond : t2RunCond s x = true) (hpwm : (s.tm x).pwm = [i])
    (hmask : (s.tm x).breakMask = periodBit ∧
        ((s.ccp i).dutyArmed = true → 4 * ((s.tm x).pr.toNat + 1) < (s.ccp i).dcLatched) ∨
      (s.tm x).breakMask = dutyBit i ||| periodBit) :
    ∃ t, PeriodBegun x i s t ∧ t2BrkCallback signal x s = t2Recompute x t := by
  obtain ⟨recs, v, hphase, hv, hlate, hperiod, hwrap⟩ := dutyPhase h hs hmask
  refine ⟨_, periodBegun_matched h hs hon hx hv recs, ?_⟩
  generalize hs1 : ({ s with out := s.out ++ recs }.setCcp i v : State) = s1 at hphase
  have htimer : s1.tm x = s.tm x := by rw [← hs1]; exact setCcp_tm _ _ _ _
  have hunit : s1.ccp i = v := by rw [← hs1]; exact setCcp_ccp_same _ _ _
  have hleft : t2DutyLeft s1 x = false := t2DutyLeft_late (htimer ▸ hpwm) (by rw [hunit, htimer]; exact hlate)
  have hcfg : s1.cfg = s.cfg := by rw [← hs1]; exact setCcp_cfg _ _ _
  have hsleeping : s1.sleeping = s.sleeping := by rw [← hs1]; exact setCcp_sleeping _ _ _
  have hnext : t2Period signal x s1 = periodStart signal i (t2Matched x s1) := by
    refine t2Period_free ?_ ?_ (by rw [hcfg, htimer]; exact hfree) ?_ (htimer ▸ hpwm)
    · obtain ⟨-, -, hd⟩ := h
      rw [← hs1, setCcp_busDepth, setCcp_cfg]
      exact hd
    · unfold State.hostsOnly
      rw [← hs1, setCcp_subsOf]
      exact hr
    · rw [t2RunCond, htimer, hcfg, hsleeping]
      exact hcond
  unfold t2BrkCallback
  simp only [hpwm, List.foldl_cons, List.foldl_nil, hphase, hperiod, hwrap, hleft, Bool.and_false, Bool.false_eq_true,
    if_false, if_true, hnext]


/-- The duty as the statement writes it (R46, R295). -/
theorem ccpDuty_eq (u : Ccp) : ccpDuty u =
    if bit u.tsel 6 then u.rh.toNat * 4 + u.rl.toNat / 64 else u.rl.toNat * 4 + u.con.toNat / 16 % 4 := by
  have hrl : field u.rl 6 2 = u.rl.toNat / 64 := by
    have := u.rl.isLt
    rw [field]
    omega
  rw [ccpDuty, hrl]
  rfl

/-- Settles O48, by `t2BrkCallback_pwm` at the one event that is due and `t2Placed_start` for the breakpoint. -/
theorem pwmPeriodStarts : Obligations.PwmPeriodStarts := by
  intro i rest s u x c dc full p hdue halone hr hrun hcond hfree hratio hpwm hmask hanchor _ hpm hon
  obtain ⟨⟨hqueue, hf, hb, hpd⟩, hn, hhead, hrest⟩ := hdue
  let fired : State := { s with now := s.now + 1, queue := rest, firing := some (.tBrk x, c) }
  have hnow : fired.now.toNat = c := now_succ hn
  have hduty : ccpDuty u = dc := ccpDuty_eq u
  obtain ⟨t, hbegun, hcall⟩ := t2BrkCallback_pwm (x := x) (s := fired) (halone.of_same rfl rfl rfl rfl) hpm hon rfl hr hfree
    hcond hpwm hmask
  have htm : t.tm x = _ := hbegun.timer.trans (setTm_tm_same _ _ _)
  obtain ⟨v, hv⟩ : ∃ v : Ccp, t.ccp i = modulated i (if dc = 0 then .L else .H) { v with
      dcLatched := dc, dutyArmed := decide (0 < dc ∧ dc < full) } := by
    rw [← hduty]
    exact hbegun.unit
  have htnow : t.now.toNat = c := (congrArg BitVec.toNat hbegun.now).trans hnow
  have htpr : (t.tm x).pr = (s.tm x).pr := (congrArg Timer2.pr htm).trans rfl
  have htcon : (t.tm x).con = (s.tm x).con := (congrArg Timer2.con htm).trans rfl
  have htrun : (t.tm x).run = true := (congrArg Timer2.run htm).trans hrun
  have htratio : (t.tm x).ratio = ⟨1, 1⟩ := (congrArg Timer2.ratio htm).trans hratio
  have htanchor : (t.tm x).anchor = (t.now.toNat : Int) := by
    rw [htnow]
    exact (congrArg Timer2.anchor htm).trans hanchor
  obtain ⟨q, hplaced, hcycle, hahead, hmaskAt⟩ := t2Placed_start htratio htanchor
    ((congrArg Timer2.pwm htm).trans hpwm) htrun (dc := dc) (congrArg Ccp.dcLatched hv) ((congrArg Ccp.dutyArmed hv).trans (by rw [htpr]; rfl))
  rw [htpr, htcon, htnow] at hcycle
  rw [htpr, htcon] at hmaskAt
  have honly : T2Only x t (t2Recompute x t) := t2Only_t2Place _ _ _
  have hccp (j : CcpId) : (t2Recompute x t).ccp j = t.ccp j := honly.ccp j
  have hunit := (hccp i).trans hv
  have hTnow : (t2Recompute x t).now = t.now := (congrArg State.now honly.frame).trans (setTm_now _ _ _)
  refine ⟨{ t2Recompute x t with firing := none },
    step_one ⟨⟨hqueue, hf, hb, hpd⟩, hn, hhead, hrest⟩ (by rw [← hcall]; rfl) fun e he => ?due, ?count, congrArg Ccp.dcLatched hunit, ?out, congrArg Ccp.mod hunit, fun k => ?pin,
    congrArg Ccp.dutyArmed hunit, ⟨t.seq, ?pending⟩, hmaskAt, fun j hj => (hccp j).trans (hbegun.units j hj), ?t1, ?faults,
    ?events⟩
  case due =>
    show (t2Recompute x t).now.toNat < e.cycle
    rw [hTnow]
    rcases (hplaced.queue e).1 he with ⟨hmem, -⟩ | rfl
    · exact htnow ▸ hrest e (Eq.mp (congrArg (e ∈ ·) hbegun.queue) hmem)
    · exact hahead
  case count =>
    refine (t2Count_t2Recompute x t).trans ?_
    rw [t2Count, if_pos htrun, t2Abs_anchored htratio htanchor]
    rfl
  case out =>
    refine (congrArg (fun u : Ccp => u.out[0]) hunit).trans ?_
    simp [modulated]
  case pin =>
    show ((t2Recompute x t).ccp i).pin[k] = outputLevel i ((t2Recompute x t).ccp i) k
    rw [hunit]
    exact Vector.getElem_ofFn k.isLt
  case pending =>
    exact hplaced.pending.trans (congrArg (fun n => some (n, t.seq)) hcycle)
  case t1 => exact (congrArg State.t1 honly.frame).trans ((setTm_t1 _ _ _).trans hbegun.t1)
  case faults => exact (congrArg State.faults honly.frame).trans ((setTm_faults _ _ _).trans hbegun.faults)
  case events => exact fun e he => (honly.events e he).trans (by rw [hbegun.queue])

end Sys2Proof.Machine
end

section
/-!
Proofs of the statements of 43_ccp.md about a captured edge (R285), and about what an output shows and the two registers
that only have the outputs shown anew (R282, R283).
-/

namespace Sys2Proof.Machine

open Sys2Proof

/-! ### The capture -/

/-- A falling edge in mode 4 that the capture prescaler passes on: the pair takes Timer1's count, and the flag is raised
(R285). -/
theorem captureSink_falling {i : CcpId} {s : State} (hmode : ccpMode (s.ccp i) = 4) (hcnt : (s.ccp i).capPre.cnt = 0) :
    captureSink i .H .L s = { s with out := s.out ++ [OutRec.irq (.ccp i) s.now.toNat] }.setCcp i { s.ccp i with
      capPre := ⟨(s.ccp i).capPre.div - 1, (s.ccp i).capPre.div⟩
      rl := readReg .tmr1l s, rh := readReg .tmr1h s, flag := true } := by
  have hedge : captureEdge (ccpMode (s.ccp i)) .H .L = true := by rw [hmode]; rfl
  have htick : preStep (s.ccp i).capPre = (⟨(s.ccp i).capPre.div - 1, (s.ccp i).capPre.div⟩, true) := if_pos hcnt
  unfold captureSink
  dsimp only
  rw [if_pos hedge, htick]
  cases i <;> rfl

/-- Settles O20, by `captureSink_falling` inside the propagation. -/
theorem driveCaptures : Obligations.DriveCaptures := by
  intro i p s hp hsinks hsrc hlvl hmode hcnt hd u t
  have hexec := exec_drive_one_sink (l := .L) hp hsinks hsrc (by rw [hlvl]; nofun) hd
  have hcapture : captureSink i .H .L (drivenAt p .L s) = { drivenAt p .L s with out := t.out }.setCcp i u := by
    have hout : s.out ++ [.pin p .L s.now.toNat] ++ [.irq (.ccp i) s.now.toNat] = t.out := List.append_assoc _ _ _
    have hccp : (drivenAt p .L s).ccp i = s.ccp i := by cases i <;> rfl
    rw [captureSink_falling (hccp ▸ hmode) (hccp ▸ hcnt), hccp, ← hout]
    rfl
  rw [hlvl] at hexec
  refine hexec.trans (congrArg (fun r : State => Host.Outcome.next r.surfaced) hcapture |>.trans ?_)
  cases i <;> rfl

/-! ### What an output shows -/

theorem isPwmMode_iff {m : Nat} : isPwmMode m = true ↔ 12 ≤ m := decide_eq_true_iff

theorem comparesDrive_iff {m : Nat} : comparesDrive m = true ↔ m ∈ [1, 2, 8, 9] := by simp [comparesDrive, or_assoc]

theorem ccpPm_lt (u : Ccp) : ccpPm u < 4 := Nat.mod_lt _ (by norm_num)

/-- The outputs that a mode uses (R283). -/
theorem outputUsed_iff (i : CcpId) (u : Ccp) (k : Fin 4) : outputUsed i u k = true ↔
    if 12 ≤ ccpMode u then k = 0 ∨ (i = .ccp1 ∧ ((ccpPm u = 2 ∧ k = 1) ∨ ccpPm u = 1 ∨ ccpPm u = 3))
    else k = 0 ∧ ccpMode u ∈ [1, 2, 8, 9] := by
  unfold outputUsed
  by_cases hmode : 12 ≤ ccpMode u
  · rw [if_pos (isPwmMode_iff.2 hmode), if_pos hmode]
    cases i with
    | ccp2 => simp [steeringOf]
    | ccp1 =>
      have hpm := ccpPm_lt u
      obtain h | h | h | h : ccpPm u = 0 ∨ ccpPm u = 1 ∨ ccpPm u = 2 ∨ ccpPm u = 3 := by omega
      all_goals simp [steeringOf, h]
  · rw [if_neg (mt isPwmMode_iff.1 hmode), if_neg hmode, ← comparesDrive_iff, Bool.and_eq_true, beq_iff_eq, and_comm]

/-- The level of an output, by its mode (R283). -/
theorem outputLevel_pwm {i : CcpId} {u : Ccp} (h : 12 ≤ ccpMode u) (k : Fin 4) : outputLevel i u k =
    if outputUsed i u k = false then .Z
    else if u.shutdown then pssLevel u k else invertIf (bit u.pol k) u.out[k] := by
  unfold outputLevel
  rw [if_pos (isPwmMode_iff.2 h)]
  cases outputUsed i u k <;> rfl

theorem outputLevel_other {i : CcpId} {u : Ccp} (h : ¬ 12 ≤ ccpMode u) (k : Fin 4) : outputLevel i u k =
    if k = 0 ∧ ccpMode u ∈ [1, 2, 8, 9] then u.out[k] else .Z := by
  have hused := outputUsed_iff i u k
  rw [if_neg h] at hused
  unfold outputLevel
  rw [if_neg (mt isPwmMode_iff.1 h)]
  by_cases hk : k = 0 ∧ ccpMode u ∈ [1, 2, 8, 9]
  · rw [if_pos hk, hused.2 hk]
    rfl
  · rw [if_neg hk, Bool.eq_false_iff.2 (mt hused.1 hk)]
    rfl

/-! ### PUT PWMxCON and CCPxPOL -/

theorem bitOf_eq (l : Level) : bitOf l = if l = .H then 1 else 0 := by cases l <;> rfl

/-- A unit stored with its outputs' pins as they were shows its outputs, each change of a 0/1 reading recorded. -/
theorem refresh_stored {i : CcpId} {u : Ccp} {s : State} (h : s.ccpAlone i) (hpin : u.pin = (s.ccp i).pin) :
    refresh signal i (s.setCcp i u) = { s with
      out := s.out ++ (List.finRange 4).flatMap (fun k =>
        if bitOf (outputLevel i u k) = bitOf (s.ccp i).pin[k] then []
        else s.heard .pwmEdge (4 * i.idx + k) (bitOf (outputLevel i u k)) s.now.toNat)
      }.setCcp i { u with pin := Vector.ofFn (outputLevel i u) } := by
  rw [refresh_alone ((ccpOnly_setCcp i s u).ccpAlone h), ← hpin]
  cases i <;> rfl

theorem exec_putPwmcon (i : CcpId) (v : Byte) (s : State) :
    exec (putRow v (.pwmcon i)) s = .next (refresh signal i (s.setCcp i { s.ccp i with pwmcon := v })) :=
  (exec_putRow _ v s).trans (congrArg _ (regPut_unmasked (r := .pwmcon i) rfl (fun _ => rfl) rfl v s))

theorem exec_putCcppol (i : CcpId) (v : Byte) (s : State) :
    exec (putRow v (.ccppol i)) s = .next (refresh signal i (s.setCcp i { s.ccp i with pol := v &&& 0x0F })) :=
  (exec_putRow _ v s).trans (congrArg _ (regPut_masked (r := .ccppol i) rfl (fun _ => rfl) v s))

/-- Settles O45: the level by `outputLevel_pwm` and `outputLevel_other`; both PUTs are `refresh_stored`. -/
theorem outputsShown : Obligations.OutputsShown := by
  refine ⟨fun i u k => ?level, ?puts⟩
  case level =>
    by_cases hmode : 12 ≤ ccpMode u
    · have hused := outputUsed_iff i u k
      rw [if_pos hmode] at hused
      rw [outputLevel_pwm hmode]
      by_cases hk : outputUsed i u k = true
      · refine Eq.trans ?_ ((if_pos hmode).trans (if_pos (hused.1 hk))).symm
        rw [hk, pssLevel]
        simp only [beq_iff_eq, Bool.or_eq_true]
        rfl
      · refine Eq.trans ?_ ((if_pos hmode).trans (if_neg (mt hused.2 hk))).symm
        exact if_pos (Bool.eq_false_iff.2 hk)
    · exact (outputLevel_other hmode k).trans (if_neg hmode).symm
  case puts =>
    intro i v s halone one shown
    have hone : one = bitOf := funext fun l => (bitOf_eq l).symm
    have hshown (u : Ccp) (hpin : u.pin = (s.ccp i).pin) : refresh signal i (s.setCcp i u) = shown u := by
      rw [refresh_stored halone hpin]
      simp only [shown, hone]
      cases i <;> rfl
    exact ⟨(exec_putPwmcon i v s).trans (congrArg Host.Outcome.next (hshown { s.ccp i with pwmcon := v } rfl)),
      (exec_putCcppol i v s).trans (congrArg Host.Outcome.next (hshown { s.ccp i with pol := v &&& 0x0F } rfl))⟩

end Sys2Proof.Machine
end

section
/-!
Proof of the statement of 43_ccp.md about PUT CCPxCON and CCPxTSEL (R280, R291): what leaving a mode and entering one
change, each by the unit's mode, and the outputs shown after both.
-/

namespace Sys2Proof.Machine

open Sys2Proof

/-! ### What a change of mode leaves alone -/

/-- Nothing changed but the unit, the timers and the queue, in which no event came up but a timer's breakpoint. -/
structure ModeOnly (i : CcpId) (s t : State) : Prop where
  frame : t = { s with
    t1 := t.t1, t2 := t.t2, t4 := t.t4, t6 := t.t6, queue := t.queue, seq := t.seq }.setCcp i (t.ccp i)
  absent : ∀ tr, tr ≠ .t1Brk → (∀ x, tr ≠ .tBrk x) → s.pending tr = none → t.pending tr = none

theorem ModeOnly.trans {i : CcpId} {s t u : State} (a : ModeOnly i s t) (b : ModeOnly i t u) : ModeOnly i s u := by
  refine ⟨b.frame.trans ?_, fun tr h1 h2 h => b.absent tr h1 h2 (a.absent tr h1 h2 h)⟩
  rw [a.frame]
  cases i <;> rfl

theorem modeOnly_refl (i : CcpId) (s : State) : ModeOnly i s s := ⟨(setCcp_self s i).symm, fun _ _ _ h => h⟩

theorem modeOnly_setCcp (i : CcpId) (s : State) (u : Ccp) : ModeOnly i s (s.setCcp i u) :=
  ⟨by cases i <;> rfl, fun tr _ _ h => (pending_of_eq (setCcp_queue _ _ _) tr).trans h⟩

theorem modeOnly_setTm (i : CcpId) (s : State) (x : T2Id) (u : Timer2) : ModeOnly i s (s.setTm x u) :=
  ⟨by cases x <;> cases i <;> rfl, fun tr _ _ h => (pending_of_eq (setTm_queue _ _ _) tr).trans h⟩

theorem modeOnly_cancel (i : CcpId) (t : TrigId) (s : State) : ModeOnly i s (cancel t s) :=
  ⟨by cases i <;> rfl, fun tr _ _ h => (pending_eq_none _ tr).2 fun e he =>
    (pending_eq_none s tr).1 h e (List.mem_filter.1 he).1⟩

theorem T1Only.modeOnly {s t : State} (h : T1Only s t) (i : CcpId) : ModeOnly i s t := by
  refine ⟨?_, fun tr htr _ hnone => (pending_eq_none t tr).2 fun e he heq => ?_⟩
  · rw [h.frame]
    cases i <;> rfl
  · exact (pending_eq_none s tr).1 hnone e ((h.events e (by simpa [heq] using htr)).1 he) heq

theorem T2Only.modeOnly {x : T2Id} {s t : State} (h : T2Only x s t) (i : CcpId) : ModeOnly i s t := by
  refine ⟨?_, fun tr _ htr hnone => h.pending_none (htr x) hnone⟩
  rw [h.frame]
  cases x <;> cases i <;> rfl

/-- The other unit, Timer0, the pins and the fault record stand. -/
structure BesideStands (i : CcpId) (s t : State) : Prop where
  units : ∀ j, j ≠ i → t.ccp j = s.ccp j
  t0 : t.t0 = s.t0
  pins : t.pins = s.pins
  faults : t.faults = s.faults

theorem BesideStands.trans {i : CcpId} {s t u : State} (a : BesideStands i s t) (b : BesideStands i t u) :
    BesideStands i s u :=
  ⟨fun j hj => (b.units j hj).trans (a.units j hj), b.t0.trans a.t0, b.pins.trans a.pins, b.faults.trans a.faults⟩

theorem besideStands_setCcp (i : CcpId) (s : State) (u : Ccp) : BesideStands i s (s.setCcp i u) :=
  ⟨setCcp_ccp_other i u s, setCcp_t0 i u s, setCcp_pins i u s, setCcp_faults i u s⟩

theorem ModeOnly.besideStands {i : CcpId} {s t : State} (h : ModeOnly i s t) : BesideStands i s t := by
  have hbase : BesideStands i s { s with
      t1 := t.t1, t2 := t.t2, t4 := t.t4, t6 := t.t6, queue := t.queue, seq := t.seq } :=
    ⟨fun j _ => by cases j <;> rfl, rfl, rfl, rfl⟩
  have hall := hbase.trans (besideStands_setCcp i _ (t.ccp i))
  rwa [← h.frame] at hall

theorem ModeOnly.ccpAlone {i : CcpId} {s t : State} (h : ModeOnly i s t) (ha : s.ccpAlone i) : t.ccpAlone i := by
  refine ha.of_same ?_ ?_ ?_ ?_ <;> rw [h.frame]
  · exact setCcp_pins _ _ _
  · exact setCcp_subsOf _ _ _ _
  · exact setCcp_busDepth _ _ _
  · exact setCcp_cfg _ _ _

/-! ### The lists and the registers under a signal -/

theorem Signalled.cmp {s t : State} (h : Signalled s t) : t.t1.cmp = s.t1.cmp :=
  (congrArg (fun u : State => u.t1.cmp) h.config :)

theorem Signalled.unit {s t : State} (h : Signalled s t) (i : CcpId) : (t.ccp i).config = (s.ccp i).config := by
  cases i with
  | ccp1 => exact (congrArg State.ccp1 h.config :)
  | ccp2 => exact (congrArg State.ccp2 h.config :)

theorem T1Only.ccp {s t : State} (h : T1Only s t) (i : CcpId) : t.ccp i = s.ccp i := by
  rw [h.frame]
  cases i <;> rfl

/-! ### Leaving a mode -/

/-- What `Leave` does (R280): the unit goes out of the list of its mode, and what is pending of that mode is dropped. -/
structure Left (i : CcpId) (s t : State) : Prop extends ModeOnly i s t where
  unit : t.ccp i = { s.ccp i with dutyArmed := (t.ccp i).dutyArmed, dbTarget := (t.ccp i).dbTarget }
  cmp : t.t1.cmp =
    if isCompareMode (ccpMode (s.ccp i)) then s.t1.cmp.filter (fun e => e.1 != i) else s.t1.cmp
  pwm : ∀ x, (t.tm x).pwm =
    if 12 ≤ ccpMode (s.ccp i) ∧ s.pwmTimer i = x then (s.tm x).pwm.filter (fun j => j != i) else (s.tm x).pwm
  pulse : isCompareMode (ccpMode (s.ccp i)) = true → t.pending (.ccpPulse i) = none
  turnOn : 12 ≤ ccpMode (s.ccp i) → t.pending (.ccpDb i) = none ∧ (t.ccp i).dbTarget = none

theorem not_compare_of_le {m : Nat} (h : 12 ≤ m) : ¬ isCompareMode m = true := compare_ne_of_pwm (isPwmMode_iff.2 h)

theorem left_of_compare {i : CcpId} {s : State} (hm : isCompareMode (ccpMode (s.ccp i)) = true) :
    Left i s (ccpLeave i s) := by
  let out : State := { s with t1 := { s.t1 with cmp := s.t1.cmp.filter (fun e => e.1 != i) } }
  have hleave : ccpLeave i s = cancel (.ccpPulse i) (t1Recompute out) := if_pos hm
  have hpwm : ¬ 12 ≤ ccpMode (s.ccp i) := fun h => not_compare_of_le h hm
  have honly : T1Only s (t1Recompute out) := (t1Only_t1Recompute out).of_t1
  have hccp : (cancel (.ccpPulse i) (t1Recompute out)).ccp i = s.ccp i := (cancel_ccp _ _ _).trans (honly.ccp i)
  rw [hleave]
  refine ⟨(honly.modeOnly i).trans (modeOnly_cancel i _ _), by rw [hccp], ?_, fun x => ?_,
    fun _ => pending_cancel_same _ _, fun h => absurd h hpwm⟩
  · rw [if_pos hm, cancel_t1]
    exact (sig_t1Recompute out).cmp
  · rw [if_neg fun h => hpwm h.1, cancel_tm]
    exact (sig_t1Recompute out).stands.pwm x

/-- The unit out of PWM mode, before the timer's breakpoint is recomputed. -/
def pwmLeft (i : CcpId) (s : State) : State :=
  (cancel (.ccpDb i) (s.setTm (s.pwmTimer i)
    { s.tm (s.pwmTimer i) with pwm := (s.tm (s.pwmTimer i)).pwm.filter (fun j => j != i) })).setCcp i
      { s.ccp i with dutyArmed := false, dbTarget := none }

theorem ccpLeave_pwm {i : CcpId} {s : State} (hm : 12 ≤ ccpMode (s.ccp i)) :
    ccpLeave i s = t2Recompute (s.pwmTimer i) (pwmLeft i s) := by
  unfold ccpLeave pwmLeft
  dsimp only
  rw [if_neg (not_compare_of_le hm), if_pos (isPwmMode_iff.2 hm)]
  generalize s.pwmTimer i = x
  cases x <;> cases i <;> rfl

theorem pwm_setTm (s : State) (x y : T2Id) (u : Timer2) :
    ((s.setTm x u).tm y).pwm = if x = y then u.pwm else (s.tm y).pwm := by
  by_cases h : x = y
  · subst h
    rw [setTm_tm_same, if_pos rfl]
  · rw [setTm_tm_other _ _ _ _ (Ne.symm h), if_neg h]

theorem left_of_pwm {i : CcpId} {s : State} (hm : 12 ≤ ccpMode (s.ccp i)) : Left i s (ccpLeave i s) := by
  have hcompare := not_compare_of_le hm
  have honly : T2Only (s.pwmTimer i) (pwmLeft i s) (t2Recompute (s.pwmTimer i) (pwmLeft i s)) := t2Only_t2Place _ _ _
  have hsig := sig_t2Recompute (s.pwmTimer i) (pwmLeft i s)
  have hunit : (t2Recompute (s.pwmTimer i) (pwmLeft i s)).ccp i = { s.ccp i with dutyArmed := false, dbTarget := none } :=
    (honly.ccp i).trans (setCcp_ccp_same _ _ _)
  have hdropped : (pwmLeft i s).pending (.ccpDb i) = none :=
    (pending_of_eq (setCcp_queue _ _ _) _).trans (pending_cancel_same _ _)
  rw [ccpLeave_pwm hm]
  refine ⟨?only, by rw [hunit], ?cmp, fun x => ?pwm, fun h => absurd h hcompare,
    fun _ => ⟨honly.pending_none nofun hdropped, by rw [hunit]⟩⟩
  case only =>
    exact ((modeOnly_setTm i s _ _).trans (modeOnly_cancel i _ _)).trans (modeOnly_setCcp i _ _) |>.trans (honly.modeOnly i)
  case cmp => rw [hsig.cmp, if_neg hcompare, pwmLeft, setCcp_t1, cancel_t1, setTm_t1]
  case pwm =>
    rw [hsig.stands.pwm x, pwmLeft, setCcp_tm, cancel_tm, pwm_setTm]
    by_cases hx : s.pwmTimer i = x
    · subst hx
      rw [if_pos rfl, if_pos ⟨hm, rfl⟩]
    · rw [if_neg hx, if_neg fun h => hx h.2]

theorem left_ccpLeave (i : CcpId) (s : State) : Left i s (ccpLeave i s) := by
  by_cases hc : isCompareMode (ccpMode (s.ccp i)) = true
  · exact left_of_compare hc
  by_cases hp : 12 ≤ ccpMode (s.ccp i)
  · exact left_of_pwm hp
  have hleave : ccpLeave i s = s := (if_neg hc).trans (if_neg (mt isPwmMode_iff.1 hp))
  rw [hleave]
  exact ⟨modeOnly_refl i s, rfl, (if_neg hc).symm, fun x => (if_neg fun h => hp h.1).symm, fun h => absurd h hc,
    fun h => absurd h hp⟩

/-! ### Entering a mode -/

/-- What `Enter` does (R280, R291): the unit joins the list of its mode, a capture loads its prescaler, and the outputs
that the mode drives start at its first level. -/
structure Entered (i : CcpId) (s t : State) : Prop extends ModeOnly i s t where
  unit : t.ccp i = { s.ccp i with
    out := (t.ccp i).out, capPre := (t.ccp i).capPre, mod := (t.ccp i).mod, dutyArmed := (t.ccp i).dutyArmed }
  cmp : t.t1.cmp = s.t1.cmp ++ if isCompareMode (ccpMode (s.ccp i)) then [(i, ccpr (s.ccp i))] else []
  pwm : ∀ x, (t.tm x).pwm = (s.tm x).pwm ++ if 12 ≤ ccpMode (s.ccp i) ∧ s.pwmTimer i = x then [i] else []
  capture : isCaptureMode (ccpMode (s.ccp i)) = true → (t.ccp i).capPre.div = captureDiv (ccpMode (s.ccp i))
  compare : comparesDrive (ccpMode (s.ccp i)) = true → (t.ccp i).out[0] = if ccpMode (s.ccp i) = 9 then .H else .L
  started : 12 ≤ ccpMode (s.ccp i) →
    (t.ccp i).mod = .L ∧ (t.ccp i).dutyArmed = false ∧ (t.ccp i).out = Vector.replicate 4 .L

theorem isCaptureMode_iff {m : Nat} : isCaptureMode m = true ↔ 4 ≤ m ∧ m < 8 := by simp [isCaptureMode]

theorem compare_of_drives {m : Nat} (h : comparesDrive m = true) : isCompareMode m = true := by
  simp only [comparesDrive_iff, List.mem_cons, List.not_mem_nil, or_false] at h
  rcases h with rfl | rfl | rfl | rfl <;> rfl

theorem entered_capture {i : CcpId} {s : State} (hm : isCaptureMode (ccpMode (s.ccp i)) = true) :
    Entered i s (ccpEnter i s) := by
  have henter : ccpEnter i s = s.setCcp i { s.ccp i with capPre := preLoad (captureDiv (ccpMode (s.ccp i))) } := if_pos hm
  have hcompare : ¬ isCompareMode (ccpMode (s.ccp i)) = true := Bool.eq_false_iff.1 (compare_false_of_capture hm)
  have hpwm : ¬ 12 ≤ ccpMode (s.ccp i) := mt isPwmMode_iff.2 (Bool.eq_false_iff.1 (pwm_false_of_capture hm))
  rw [henter]
  refine ⟨modeOnly_setCcp i s _, by rw [setCcp_ccp_same], ?_, fun x => ?_, fun _ => by rw [setCcp_ccp_same]; rfl,
    fun h => absurd (compare_of_drives h) hcompare, fun h => absurd h hpwm⟩
  · rw [if_neg hcompare, List.append_nil, setCcp_t1]
  · rw [if_neg fun h => hpwm h.1, List.append_nil, setCcp_tm]

/-- Output A as a compare mode starts it: high in the clear mode, low in the other modes that drive it (R291). -/
def compareStart (i : CcpId) (s : State) : State :=
  if ccpMode (s.ccp i) = 9 then setOutput i 0 .H s
  else if comparesDrive (ccpMode (s.ccp i)) then setOutput i 0 .L s
  else s

theorem compareStart_eq (i : CcpId) (s : State) : ∃ o : Vector Level 4,
    (comparesDrive (ccpMode (s.ccp i)) = true → o[0] = if ccpMode (s.ccp i) = 9 then .H else .L) ∧
      compareStart i s = s.setCcp i { s.ccp i with out := o } := by
  have hset (l : Level) : ((s.ccp i).out.set 0 l)[0] = l := by simp
  unfold compareStart
  split
  next h => exact ⟨_, fun _ => hset .H, rfl⟩
  next h =>
    split
    next => exact ⟨_, fun _ => hset .L, rfl⟩
    next hdrive => exact ⟨(s.ccp i).out, fun hm => absurd hm hdrive, (setCcp_self s i).symm⟩

theorem entered_compare {i : CcpId} {s : State} (hm : isCompareMode (ccpMode (s.ccp i)) = true) :
    Entered i s (ccpEnter i s) := by
  have hcapture : ¬ isCaptureMode (ccpMode (s.ccp i)) = true := fun h =>
    absurd ((compare_false_of_capture h).symm.trans hm) nofun
  have hpwm : ¬ 12 ≤ ccpMode (s.ccp i) := fun h => not_compare_of_le h hm
  obtain ⟨o, hlevel, hstart⟩ := compareStart_eq i s
  let listed : State := { s.setCcp i { s.ccp i with out := o } with
    t1 := { s.t1 with cmp := s.t1.cmp ++ [(i, ccpr (s.ccp i))] } }
  have henter : ccpEnter i s = t1Recompute listed := by
    refine ((if_neg hcapture).trans (if_pos hm)).trans ?_
    show t1Recompute { compareStart i s with t1 := { (compareStart i s).t1 with
      cmp := (compareStart i s).t1.cmp ++ [(i, ccpr ((compareStart i s).ccp i))] } } = _
    rw [hstart, setCcp_t1, setCcp_ccp_same]
    rfl
  have honly : T1Only (s.setCcp i { s.ccp i with out := o }) (t1Recompute listed) := (t1Only_t1Recompute listed).of_t1
  have hunit : (t1Recompute listed).ccp i = { s.ccp i with out := o } := (honly.ccp i).trans (setCcp_ccp_same _ _ _)
  rw [henter]
  refine ⟨(modeOnly_setCcp i s _).trans (honly.modeOnly i), by rw [hunit], ?_, fun x => ?_, fun h => absurd h hcapture,
    fun h => by rw [hunit]; exact hlevel h, fun h => absurd h hpwm⟩
  · rw [if_pos hm]
    exact (sig_t1Recompute listed).cmp
  · rw [if_neg fun h => hpwm h.1, List.append_nil, (sig_t1Recompute listed).stands.pwm x]
    exact congrArg Timer2.pwm (setCcp_tm _ _ _ _)

/-- The unit in PWM mode with its outputs inactive, before the timer's breakpoint is recomputed. -/
def pwmEntered (i : CcpId) (s : State) : State :=
  (s.setCcp i { s.ccp i with out := Vector.replicate 4 .L, mod := .L, dutyArmed := false }).setTm (s.pwmTimer i)
    { s.tm (s.pwmTimer i) with pwm := (s.tm (s.pwmTimer i)).pwm ++ [i] }

theorem ccpEnter_pwm {i : CcpId} {s : State} (hm : 12 ≤ ccpMode (s.ccp i)) :
    ccpEnter i s = t2Recompute (s.pwmTimer i) (pwmEntered i s) := by
  have hcapture : ¬ isCaptureMode (ccpMode (s.ccp i)) = true := fun h => by
    have hrange := isCaptureMode_iff.1 h
    omega
  refine ((if_neg hcapture).trans ((if_neg (not_compare_of_le hm)).trans (if_pos (isPwmMode_iff.2 hm)))).trans ?_
  dsimp only
  rw [setCcp_tm]
  cases i <;> rfl

theorem entered_pwm {i : CcpId} {s : State} (hm : 12 ≤ ccpMode (s.ccp i)) : Entered i s (ccpEnter i s) := by
  have hcompare := not_compare_of_le hm
  have honly : T2Only (s.pwmTimer i) (pwmEntered i s) (t2Recompute (s.pwmTimer i) (pwmEntered i s)) :=
    t2Only_t2Place _ _ _
  have hsig := sig_t2Recompute (s.pwmTimer i) (pwmEntered i s)
  have hunit : (t2Recompute (s.pwmTimer i) (pwmEntered i s)).ccp i =
      { s.ccp i with out := Vector.replicate 4 .L, mod := .L, dutyArmed := false } :=
    (honly.ccp i).trans ((setTm_ccp _ _ _ _).trans (setCcp_ccp_same _ _ _))
  rw [ccpEnter_pwm hm]
  refine ⟨?only, by rw [hunit], ?cmp, fun x => ?pwm, fun h => ?capture,
    fun h => absurd (compare_of_drives h) hcompare, fun _ => by rw [hunit]; exact ⟨rfl, rfl, rfl⟩⟩
  case only => exact ((modeOnly_setCcp i s _).trans (modeOnly_setTm i _ _ _)).trans (honly.modeOnly i)
  case cmp => rw [hsig.cmp, if_neg hcompare, List.append_nil, pwmEntered, setTm_t1, setCcp_t1]
  case pwm =>
    rw [hsig.stands.pwm x, pwmEntered, pwm_setTm, setCcp_tm]
    by_cases hx : s.pwmTimer i = x
    · subst hx
      rw [if_pos rfl, if_pos ⟨hm, rfl⟩]
    · rw [if_neg hx, if_neg fun h => hx h.2, List.append_nil]
  case capture =>
    have hrange := isCaptureMode_iff.1 h
    omega

theorem entered_ccpEnter (i : CcpId) (s : State) : Entered i s (ccpEnter i s) := by
  by_cases ha : isCaptureMode (ccpMode (s.ccp i)) = true
  · exact entered_capture ha
  by_cases hc : isCompareMode (ccpMode (s.ccp i)) = true
  · exact entered_compare hc
  by_cases hp : 12 ≤ ccpMode (s.ccp i)
  · exact entered_pwm hp
  have henter : ccpEnter i s = s := ((if_neg ha).trans (if_neg hc)).trans (if_neg (mt isPwmMode_iff.1 hp))
  rw [henter]
  refine ⟨modeOnly_refl i s, rfl, ?_, fun x => ?_, fun h => absurd h ha, fun h => absurd (compare_of_drives h) hc,
    fun h => absurd h hp⟩
  · rw [if_neg hc, List.append_nil]
  · rw [if_neg fun h => hp h.1, List.append_nil]

/-! ### From one mode to another -/

/-- The unit out of its old mode, its two bytes stored, and into its new mode (R280). -/
def modeChanged (i : CcpId) (con tsel : Byte) (s : State) : State :=
  ccpEnter i ((ccpLeave i s).setCcp i { (ccpLeave i s).ccp i with con := con, tsel := tsel })

/-- What a change of mode does, the outputs not yet shown: `Left` and `Entered` in one (R280, R291). -/
structure ModeChanged (i : CcpId) (con tsel : Byte) (s t : State) : Prop extends ModeOnly i s t where
  unit : t.ccp i = { s.ccp i with
    con := con, tsel := tsel, out := (t.ccp i).out, capPre := (t.ccp i).capPre, mod := (t.ccp i).mod
    dutyArmed := (t.ccp i).dutyArmed, dbTarget := (t.ccp i).dbTarget }
  cmp : t.t1.cmp =
    (if isCompareMode (ccpMode (s.ccp i)) then s.t1.cmp.filter (fun e => e.1 != i) else s.t1.cmp) ++
      if isCompareMode (field con 0 4) then [(i, ccpr (s.ccp i))] else []
  pwm : ∀ x, (t.tm x).pwm =
    (if 12 ≤ ccpMode (s.ccp i) ∧ s.pwmTimer i = x then (s.tm x).pwm.filter (fun j => j != i) else (s.tm x).pwm) ++
      if 12 ≤ field con 0 4 ∧ ptselTimer (field tsel 0 2) = x then [i] else []
  capture : isCaptureMode (field con 0 4) = true → (t.ccp i).capPre.div = captureDiv (field con 0 4)
  compare : comparesDrive (field con 0 4) = true → (t.ccp i).out[0] = if field con 0 4 = 9 then .H else .L
  started : 12 ≤ field con 0 4 →
    (t.ccp i).mod = .L ∧ (t.ccp i).dutyArmed = false ∧ (t.ccp i).out = Vector.replicate 4 .L
  pulse : isCompareMode (ccpMode (s.ccp i)) = true → t.pending (.ccpPulse i) = none
  turnOn : 12 ≤ ccpMode (s.ccp i) → t.pending (.ccpDb i) = none ∧ (t.ccp i).dbTarget = none

theorem modeChanged_spec (i : CcpId) (con tsel : Byte) (s : State) :
    ModeChanged i con tsel s (modeChanged i con tsel s) := by
  obtain ⟨hlonly, hlunit, hlcmp, hlpwm, hpulse, hturnOn⟩ := left_ccpLeave i s
  unfold modeChanged
  generalize ccpLeave i s = l at *
  have hstored : ModeOnly i l (l.setCcp i { l.ccp i with con := con, tsel := tsel }) := modeOnly_setCcp i l _
  have hccp : (l.setCcp i { l.ccp i with con := con, tsel := tsel }).ccp i = { s.ccp i with
      con := con, tsel := tsel, dutyArmed := (l.ccp i).dutyArmed, dbTarget := (l.ccp i).dbTarget } := by
    rw [setCcp_ccp_same, hlunit]
  have ht1 := setCcp_t1 i { l.ccp i with con := con, tsel := tsel } l
  have htm := setCcp_tm i { l.ccp i with con := con, tsel := tsel } l
  generalize l.setCcp i { l.ccp i with con := con, tsel := tsel } = r at *
  obtain ⟨heonly, heunit, hecmp, hepwm, hcapture, hcompare, hstarted⟩ := entered_ccpEnter i r
  have hmode : ccpMode (r.ccp i) = field con 0 4 := congrArg ccpMode hccp
  have htimer : r.pwmTimer i = ptselTimer (field tsel 0 2) := congrArg (fun u => ptselTimer (ccpPtsel u)) hccp
  have hpair : ccpr (r.ccp i) = ccpr (s.ccp i) := by rw [hccp]; rfl
  have htarget : ((ccpEnter i r).ccp i).dbTarget = (l.ccp i).dbTarget := by rw [heunit, hccp]
  rw [hmode] at hecmp hcapture hcompare hstarted
  refine ⟨(hlonly.trans hstored).trans heonly, ?unit, ?cmp, fun x => ?pwm, hcapture, hcompare, hstarted,
    fun h => ?pulse, fun h => ?turnOn⟩
  case unit => rw [heunit, hccp]
  case cmp => rw [hecmp, ht1, hlcmp, hpair]
  case pwm => rw [hepwm, htm, hlpwm, hmode, htimer]
  case pulse => exact (hstored.trans heonly).absent _ nofun nofun (hpulse h)
  case turnOn =>
    obtain ⟨hpending, hnone⟩ := hturnOn h
    exact ⟨(hstored.trans heonly).absent _ nofun nofun hpending, htarget.trans hnone⟩

/-- The outputs as a mode starts them (R280, R283, R291). -/
theorem ModeChanged.outputLevel {i : CcpId} {con tsel : Byte} {s t : State} (h : ModeChanged i con tsel s t)
    (k : Fin 4) : outputLevel i (t.ccp i) k =
      if 12 ≤ field con 0 4 then
        (if outputUsed i (t.ccp i) k = false then .Z
        else if (s.ccp i).shutdown then pssLevel (s.ccp i) k else if bit (s.ccp i).pol k then .H else .L)
      else if k = 0 ∧ field con 0 4 ∈ [1, 2, 8] then .L else if k = 0 ∧ field con 0 4 = 9 then .H else .Z := by
  have hmode : ccpMode (t.ccp i) = field con 0 4 := by rw [h.unit]; rfl
  by_cases hpwm : 12 ≤ field con 0 4
  · obtain ⟨-, -, hout⟩ := h.started hpwm
    have hlow : (t.ccp i).out[k] = .L := by rw [hout]; simp
    have hshutdown : (t.ccp i).shutdown = (s.ccp i).shutdown := by rw [h.unit]
    have hpss : pssLevel (t.ccp i) k = pssLevel (s.ccp i) k := by rw [h.unit]; rfl
    have hpol : (t.ccp i).pol = (s.ccp i).pol := by rw [h.unit]
    rw [if_pos hpwm, outputLevel_pwm (hmode ▸ hpwm), hshutdown, hpss, hpol, hlow]
    rfl
  · rw [if_neg hpwm, outputLevel_other (hmode ▸ hpwm), hmode]
    by_cases hk : k = 0
    · subst hk
      by_cases hdrives : field con 0 4 ∈ [1, 2, 8, 9]
      · rw [if_pos ⟨rfl, hdrives⟩]
        refine (h.compare (comparesDrive_iff.2 hdrives)).trans ?_
        simp only [List.mem_cons, List.not_mem_nil, or_false] at hdrives
        rcases hdrives with hm | hm | hm | hm <;> simp [hm]
      · have hlow : ¬ field con 0 4 ∈ [1, 2, 8] := fun hm => hdrives (by simp at hm ⊢; tauto)
        have hhigh : ¬ field con 0 4 = 9 := fun hm => hdrives (by simp [hm])
        rw [if_neg fun hm => hdrives hm.2, if_neg fun hm => hlow hm.2, if_neg fun hm => hhigh hm.2]
    · rw [if_neg fun hm => hk hm.1, if_neg fun hm => hk hm.1, if_neg fun hm => hk hm.1]

/-! ### The outputs shown -/

/-- Shown where hosts alone hear them, the outputs change their pin levels and the log, and nothing else. -/
structure Shown (i : CcpId) (s t : State) : Prop extends BesideStands i s t where
  unit : t.ccp i = { s.ccp i with pin := Vector.ofFn (outputLevel i (s.ccp i)) }
  pending : ∀ tr, t.pending tr = s.pending tr

theorem shown_refresh {i : CcpId} {s : State} (h : s.ccpAlone i) : Shown i s (refresh signal i s) := by
  rw [refresh_alone h]
  generalize s.out ++ (List.finRange 4).flatMap (edgeRecords i s) = o
  have hlog : BesideStands i s { s with out := o } := ⟨fun j _ => by cases j <;> rfl, rfl, rfl, rfl⟩
  exact ⟨hlog.trans (besideStands_setCcp i _ _), setCcp_ccp_same _ _ _, fun tr => pending_of_eq (setCcp_queue _ _ _) tr⟩

/-! ### PUT CCPxCON and CCPxTSEL -/

theorem exec_putCcpcon (i : CcpId) (v : Byte) (s : State) : exec (putRow v (.ccpcon i)) s =
    .next (writeCcpMode signal i (v &&& (match i with | .ccp1 => 0xFF | .ccp2 => 0x3F)) (s.ccp i).tsel s) := by
  refine (exec_putRow _ v s).trans (congrArg _ ((regPut_masked (r := .ccpcon i) rfl (fun _ => rfl) v s).trans ?_))
  cases i <;> rfl

theorem exec_putCcptsel (i : CcpId) (v : Byte) (s : State) : exec (putRow v (.ccptsel i)) s =
    .next (writeCcpMode signal i (s.ccp i).con (v &&& 0xC3) s) :=
  (exec_putRow _ v s).trans (congrArg _ (regPut_masked (r := .ccptsel i) rfl (fun _ => rfl) v s))

theorem captureDiv_eq (m : Nat) : captureDiv m = if m = 7 then 16 else if m = 6 then 4 else 1 := by
  unfold captureDiv
  split
  · rfl
  · rfl
  next h6 h7 => rw [if_neg h7, if_neg h6]

/-- Settles O44: a standing mode by the model's own test; else `modeChanged_spec`, kept by every signal of the outputs
shown, and where hosts alone hear them by `shown_refresh`. -/
theorem ccpModeWrites : Obligations.CcpModeWrites := by
  intro i v s u old wrote
  have hwrote (con tsel : Byte) : wrote con tsel (writeCcpMode signal i con tsel s) := by
    dsimp only [wrote]
    split
    next hstands => exact if_pos hstands
    next hchanges =>
      have hwrite : writeCcpMode signal i con tsel s = refresh signal i (modeChanged i con tsel s) := if_neg hchanges
      have hspec := modeChanged_spec i con tsel s
      rw [hwrite]
      generalize modeChanged i con tsel s = t at *
      have hsig := sig_refresh sig_signal i t
      have hunit := hsig.unit i
      have hcon : (t.ccp i).con = con := by rw [hspec.unit]
      have htsel : (t.ccp i).tsel = tsel := by rw [hspec.unit]
      refine ⟨(congrArg Ccp.con hunit :).trans hcon, (congrArg Ccp.tsel hunit :).trans htsel, hsig.cmp.trans hspec.cmp,
        fun x => (hsig.stands.pwm x).trans (hspec.pwm x), fun h4 h8 => ?capture, fun halone => ?alone⟩
      case capture =>
        have hcapture : isCaptureMode (field con 0 4) = true := isCaptureMode_iff.2 ⟨h4, h8⟩
        refine (congrArg (fun u : Ccp => u.capPre.div) hunit :).trans ((hspec.capture hcapture).trans ?_)
        exact captureDiv_eq _
      case alone =>
        have hshown := shown_refresh (hspec.ccpAlone halone)
        obtain ⟨hunits, ht0, hpins, hfaults⟩ := hspec.besideStands.trans hshown.toBesideStands
        refine ⟨fun k => ?pin, fun h => ?started, fun h => (hshown.pending _).trans (hspec.pulse h), fun h => ?turnOn,
          hunits, ht0, hpins, hfaults⟩
        case pin =>
          rw [hshown.unit]
          exact (Vector.getElem_ofFn k.isLt).trans (hspec.outputLevel k)
        case started =>
          obtain ⟨hmod, harmed, -⟩ := hspec.started h
          rw [hshown.unit]
          exact ⟨hmod, harmed⟩
        case turnOn =>
          obtain ⟨hdb, htarget⟩ := hspec.turnOn h
          rw [hshown.unit]
          exact ⟨(hshown.pending _).trans hdb, htarget⟩
  exact ⟨⟨_, exec_putCcpcon i v s, hwrote _ _⟩, ⟨_, exec_putCcptsel i v s, hwrote _ _⟩⟩

end Sys2Proof.Machine
end

section
/-!
Laws of the oscillator (44_oscillator.md R342, R345 to R347): what a publication of the frequency leaves where hosts alone
hear it, and what the switch to the internal RC and the start of a warm-up leave before it.
-/

namespace Sys2Proof.Machine

open Sys2Proof

/-! ### Events that stand -/

/-- No event of another trigger than those of `ts` came, went or moved. -/
structure EventsStand (ts : List TrigId) (s t : State) : Prop where
  events : sameEventsBut ts s.queue t.queue
  pending : ∀ u, u ∉ ts → t.pending u = s.pending u

theorem eventsStand_of_queue {ts : List TrigId} {s t : State} (h : t.queue = s.queue) : EventsStand ts s t :=
  ⟨fun _ _ => by rw [h], fun u _ => pending_of_eq h u⟩

theorem EventsStand.mono {ts us : List TrigId} {s t : State} (h : EventsStand ts s t) (hsub : ts ⊆ us) :
    EventsStand us s t :=
  ⟨fun e he => h.events e fun hm => he (hsub hm), fun u hu => h.pending u fun hm => hu (hsub hm)⟩

theorem EventsStand.trans {ts : List TrigId} {s t u : State} (a : EventsStand ts s t) (b : EventsStand ts t u) :
    EventsStand ts s u :=
  ⟨fun e he => (b.events e he).trans (a.events e he), fun v hv => (b.pending v hv).trans (a.pending v hv)⟩

theorem eventsStand_cancel {ts : List TrigId} {u : TrigId} (hu : u ∈ ts) (s : State) : EventsStand ts s (cancel u s) :=
  EventsStand.mono (ts := [u]) ⟨sameEventsBut_cancel u s, fun _ hv => pending_cancel_other s (by simpa using hv)⟩
    (by simpa using hu)

theorem eventsStand_reschedule {ts : List TrigId} {u : TrigId} (hu : u ∈ ts) (c : Nat) (s : State) :
    EventsStand ts s (reschedule u c s) :=
  EventsStand.mono (ts := [u])
    ⟨sameEventsBut_reschedule u c s, fun _ hv => pending_reschedule_other c s (by simpa using hv)⟩ (by simpa using hu)

/-! ### Timers on the internal RC -/

/-- A new ratio concerns a running timer on the internal RC alone (R242). -/
theorem t2Reratio_other {x : T2Id} {s : State}
    (h : (s.tm x).run = true → t2Clk s.cfg (s.tm x).clkcon ≠ .intRc) : t2Reratio x s = s := by
  refine if_neg fun hboth => ?_
  rw [Bool.and_eq_true, beq_iff_eq] at hboth
  exact h hboth.1 hboth.2

theorem t2ReratioIfStale_other {x : T2Id} {s : State}
    (h : (s.tm x).run = true → t2Clk s.cfg (s.tm x).clkcon ≠ .intRc) : t2ReratioIfStale x s = s := by
  rw [t2ReratioIfStale, t2Reratio_other h, ite_self]

theorem t2ReratioAll_alone {s : State} (h : s.oscAlone) : t2ReratioAll s = s := by
  obtain ⟨-, -, hclk⟩ := h
  rw [t2ReratioAll, t2Reratio_other (hclk .t2), t2Reratio_other (hclk .t4), t2Reratio_other (hclk .t6)]

theorem t2ReratioStale_alone {s : State} (h : s.oscAlone) : t2ReratioStale s = s := by
  obtain ⟨-, -, hclk⟩ := h
  rw [t2ReratioStale, t2ReratioIfStale_other (hclk .t2), t2ReratioIfStale_other (hclk .t4),
    t2ReratioIfStale_other (hclk .t6)]

/-! ### Publishing the frequency -/

/-- The records of a publication of the frequency `f` that hosts alone hear, none where it stands (R347). -/
def State.freqRecords (s : State) (f : Rat) : List OutRec :=
  if f = s.osc.fEff then [] else .freq f.floor.toNat s.now.toNat :: s.heard .freq 0 f.floor.toNat s.now.toNat

/-- The block at the frequency `f`, which hosts alone have heard. -/
def freqTold (f : Rat) (s : State) : State :=
  { s with osc := { s.osc with fEff := f }, out := s.out ++ s.freqRecords f }

/-- `Republish(f)` where hosts alone hear it: what is left is the timers on the internal RC (R242, R347). -/
theorem republish_hosts {f : Rat} {s : State} (hr : s.hostsOnly .freq) (hd : s.busDepth < s.cfg.busDepthMax) :
    republish signal f s = if f = s.osc.fEff then freqTold f s else t2ReratioAll (freqTold f s) := by
  by_cases hf : f = s.osc.fEff
  · rw [republish, if_pos hf, if_pos hf, freqTold, State.freqRecords, if_pos hf, List.append_nil, hf]
  · rw [republish, if_neg hf, if_neg hf]
    refine congrArg t2ReratioAll ((publish_hosts .freq 0 (hertz f) (emit _ _) (by exact hd) (by exact hr)).trans ?_)
    have hout : s.out ++ [.freq f.floor.toNat s.now.toNat] ++ s.heard .freq 0 f.floor.toNat s.now.toNat =
        s.out ++ s.freqRecords f := by rw [State.freqRecords, if_neg hf, List.append_assoc, List.singleton_append]
    exact congrArg (fun l => { s with osc := { s.osc with fEff := f }, out := l }) hout

theorem republish_alone {s : State} (h : s.oscAlone) (f : Rat) : republish signal f s = freqTold f s := by
  have halone : (freqTold f s).oscAlone := h
  obtain ⟨hr, hd, -⟩ := h
  rw [republish_hosts hr hd, t2ReratioAll_alone halone, ite_self]

/-! ### The two starts -/

/-- The settle delay starts: its event is due `INTOSC_SETTLE_CYCLES` on (R342). -/
theorem startSettle_eq (s : State) : startSettle s = { s with
    osc := { s.osc with settled := false }
    queue := insertEvent ⟨s.now.toNat + s.cfg.settleCycles, s.seq, .oscSettle⟩
      (s.queue.filter (fun e => e.trig != .oscSettle))
    seq := s.seq + 1 } := reschedule_with _ _ _

/-- The block on the internal RC with its settle delay started, before its frequency is published (R342). -/
def onInternal (s : State) : State := startSettle { s with osc := { s.osc with state := .intRc, target := none } }

theorem startInternal_eq (s : State) : startInternal signal s = republish signal s.osc.fInt (onInternal s) := by
  rw [startInternal, onInternal, startSettle_eq]

/-- The block with a warm-up of `x` started, before its frequency is published (R342). -/
def warmingUp (x : ExtSrc) (intRuns : Bool) (s : State) : State :=
  let s1 := reschedule .oscOst (s.now.toNat + s.cfg.ostCycles)
    { s with osc := { s.osc with state := .ost, target := some x } }
  if s.cfg.twoSpeed then (if intRuns then s1 else startSettle s1) else cancel .oscSettle s1

/-- The frequency during a warm-up of `x`: the internal RC's with two-speed start-up, else the source's (R342). -/
def warmUpFreq (x : ExtSrc) (s : State) : Rat := if s.cfg.twoSpeed then s.osc.fInt else extFreq s.cfg x

theorem startOst_eq (x : ExtSrc) (intRuns : Bool) (s : State) :
    startOst signal x intRuns s = republish signal (warmUpFreq x s) (warmingUp x intRuns s) := by
  simp only [startOst, warmingUp, warmUpFreq, reschedule_cfg]
  cases s.cfg.twoSpeed with
  | false => rfl
  | true =>
    cases intRuns with
    | false => simp [startSettle_eq, State.cycle]
    | true => simp [State.cycle]

/-- The two events of the oscillator. -/
def oscEvents : List TrigId := [.oscOst, .oscSettle]

theorem oscOst_mem : .oscOst ∈ oscEvents := by decide
theorem oscSettle_mem : .oscSettle ∈ oscEvents := by decide

theorem eventsStand_startSettle (s : State) : EventsStand oscEvents s (startSettle s) :=
  EventsStand.trans (t := { s with osc := { s.osc with settled := false } }) (eventsStand_of_queue rfl)
    (eventsStand_reschedule oscSettle_mem _ _)

/-- What the start of a warm-up leaves (R342). -/
structure WarmingUp (x : ExtSrc) (intRuns : Bool) (s t : State) : Prop extends EventsStand oscEvents s t where
  frame : t = { s with osc := t.osc, queue := t.queue, seq := t.seq }
  osc : t.osc = { s.osc with
    state := .ost, target := some x, settled := s.osc.settled && !(s.cfg.twoSpeed && !intRuns) }
  warmUp : t.pending .oscOst = some (s.now.toNat + s.cfg.ostCycles, s.seq)
  settle : t.pending .oscSettle = (if s.cfg.twoSpeed = false then none else if intRuns = true then s.pending .oscSettle
    else some (s.now.toNat + s.cfg.settleCycles, s.seq + 1))

theorem warmingUp_spec (x : ExtSrc) (intRuns : Bool) (s : State) : WarmingUp x intRuns s (warmingUp x intRuns s) := by
  have hstarted := (eventsStand_of_queue (ts := oscEvents) (s := s)
    (t := { s with osc := { s.osc with state := .ost, target := some x } }) rfl).trans
      (eventsStand_reschedule oscOst_mem (s.now.toNat + s.cfg.ostCycles) _)
  unfold warmingUp
  dsimp only
  split
  next htwo =>
    split
    next hint =>
      refine ⟨hstarted, by rw [reschedule_with], by simp [reschedule_osc, htwo, hint], pending_reschedule_same _ _ _, ?_⟩
      rw [if_neg (by simp [htwo]), if_pos hint]
      exact pending_reschedule_other (u := .oscSettle) (t := .oscOst) _ _ nofun
    next hint =>
      refine ⟨hstarted.trans (eventsStand_startSettle _), ?_, ?_, ?_, ?_⟩
      · rw [startSettle_eq, reschedule_with]
      · rw [startSettle_eq]
        simp [reschedule_osc, htwo, hint]
      · exact (pending_reschedule_other (u := .oscOst) (t := .oscSettle) _ _ nofun).trans (pending_reschedule_same _ _ _)
      · rw [if_neg (by simp [htwo]), if_neg hint]
        refine (pending_reschedule_same _ _ _).trans ?_
        simp [State.cycle]
  next htwo =>
    refine ⟨hstarted.trans (eventsStand_cancel oscSettle_mem _), ?_, ?_, ?_, ?_⟩
    · rw [reschedule_with]
      rfl
    · simp [reschedule_osc, htwo]
    · exact (pending_cancel_other (u := .oscOst) (t := .oscSettle) _ nofun).trans (pending_reschedule_same _ _ _)
    · rw [if_pos (by simpa using htwo)]
      exact pending_cancel_same _ _

end Sys2Proof.Machine
end

section
/-!
Proofs of the statements of 44_oscillator.md about PUT OSCCON and OSCTUNE (R341 to R343, R347) and the two events of the
oscillator (R345, R346).
-/

namespace Sys2Proof.Machine

open Sys2Proof

/-! ### The fields of the written bytes -/

theorem exec_putOsccon (v : Byte) (s : State) :
    exec (.putOsccon v) s = .next (writeOsc signal (v &&& 0xFB) s.osc.tune s) :=
  congrArg Host.Outcome.next (regPut_masked (r := .osccon) rfl (fun _ => rfl) v s)

theorem exec_putOsctune (v : Byte) (s : State) :
    exec (.putOsctune v) s = .next (writeOsc signal s.osc.con (v &&& 0x3F) s) :=
  congrArg Host.Outcome.next (regPut_masked (r := .osctune) rfl (fun _ => rfl) v s)

theorem oscScs_eq (b : Byte) : oscScs b = b.toNat % 4 := by simp [oscScs, field]
theorem oscIrcf_eq (b : Byte) : oscIrcf b = b.toNat / 8 % 16 := rfl
theorem oscTun_eq (b : Byte) : oscTun b = b.toNat % 64 := by simp [oscTun, field]

theorem oscScs_masked (v : Byte) : oscScs (v &&& 0xFB) = v.toNat % 4 := (field_and (by decide) v).trans (oscScs_eq v)
theorem oscIrcf_masked (v : Byte) : oscIrcf (v &&& 0xFB) = v.toNat / 8 % 16 := field_and (by decide) v
theorem oscPll_masked (v : Byte) : oscPll (v &&& 0xFB) = bit v 7 := by simp [oscPll, bit]
theorem oscTun_masked (v : Byte) : oscTun (v &&& 0x3F) = v.toNat % 64 := (field_and (by decide) v).trans (oscTun_eq v)

/-- The source that SCS selects (R341). -/
theorem oscSrc_eq (cfg : Cfg) (con : Byte) : oscSrc cfg con = if oscScs con = 1 then some .secondary
    else if oscScs con = 0 ∧ cfg.foscCfg = .external then some .primary else none := by
  unfold oscSrc
  split
  next h => cases hcfg : cfg.foscCfg <;> simp [h]
  next h => rw [if_pos h]
  next h0 h1 => rw [if_neg h1, if_neg fun h => h0 h.1]

/-! ### PUT OSCCON and OSCTUNE -/

/-- The registers stored and `f_int` recomputed from them (R343). -/
def oscStored (con tune : Byte) (s : State) : State := { s with
  osc := { s.osc with con := con, tune := tune, fInt := oscIntFreq s.cfg con tune } }

/-- OSCCON leaves SCS, IRCF and SPLLEN as they stand (R342). -/
abbrev oscSelects (con : Byte) (s : State) : Prop :=
  oscScs con = oscScs s.osc.con ∧ oscIrcf con = oscIrcf s.osc.con ∧ oscPll con = oscPll s.osc.con

section
variable {con tune : Byte} {s : State} (h : s.oscAlone)
include h

theorem writeOsc_kept (hsel : oscSelects con s) (htun : oscTun tune = oscTun s.osc.tune) :
    writeOsc signal con tune s = { s with osc := { s.osc with con := con, tune := tune } } := by
  simp only [writeOsc]
  rw [if_pos hsel, if_pos htun]
  exact t2ReratioStale_alone h

theorem writeOsc_tuned (hsel : oscSelects con s) (htun : oscTun tune ≠ oscTun s.osc.tune) :
    writeOsc signal con tune s = if s.osc.state = .intRc then freqTold (oscIntFreq s.cfg con tune) (oscStored con tune s)
      else oscStored con tune s := by
  simp only [writeOsc]
  rw [if_pos hsel, if_neg htun]
  split
  next hint =>
    refine (congrArg t2ReratioStale (republish_alone (s := oscStored con tune s) h _)).trans ?_
    exact t2ReratioStale_alone (s := freqTold _ _) h
  next hext => exact t2ReratioStale_alone (s := oscStored con tune s) h

theorem writeOsc_internal (hsel : ¬ oscSelects con s) (hsrc : oscSrc s.cfg con = none) :
    writeOsc signal con tune s =
      freqTold (oscIntFreq s.cfg con tune) (onInternal (cancel .oscOst (oscStored con tune s))) := by
  have hinternal : (onInternal (cancel .oscOst (oscStored con tune s))).oscAlone := by
    rw [onInternal, startSettle_eq]
    exact h
  simp only [writeOsc, updateFInt]
  rw [if_neg hsel, hsrc]
  refine (congrArg t2ReratioStale ((startInternal_eq _).trans (republish_alone hinternal _))).trans ?_
  exact t2ReratioStale_alone hinternal

theorem writeOsc_external_stands {x : ExtSrc} (hsel : ¬ oscSelects con s) (hsrc : oscSrc s.cfg con = some x)
    (hstands : s.osc.state ≠ .intRc ∧ s.osc.target = some x) : writeOsc signal con tune s = oscStored con tune s := by
  simp only [writeOsc, updateFInt]
  rw [if_neg hsel, hsrc]
  simp only
  rw [if_pos hstands]
  exact t2ReratioStale_alone h

theorem writeOsc_external {x : ExtSrc} (hsel : ¬ oscSelects con s) (hsrc : oscSrc s.cfg con = some x)
    (hmoves : ¬ (s.osc.state ≠ .intRc ∧ s.osc.target = some x)) : writeOsc signal con tune s =
      freqTold (warmUpFreq x (oscStored con tune s))
        (warmingUp x (s.osc.state == .intRc) (oscStored con tune s)) := by
  have hwarming : (warmingUp x (s.osc.state == .intRc) (oscStored con tune s)).oscAlone := by
    rw [(warmingUp_spec x _ _).frame]
    exact h
  simp only [writeOsc, updateFInt]
  rw [if_neg hsel, hsrc]
  simp only
  rw [if_neg hmoves]
  refine (congrArg t2ReratioStale ((startOst_eq x _ _).trans (republish_alone hwarming _))).trans ?_
  exact t2ReratioStale_alone hwarming

end

/-- Settles O51: the write rule by its branches, and under each what its start leaves before the frequency is told. -/
theorem oscillatorSwitches : Obligations.OscillatorSwitches := by
  intro v s h con tune fint src same now told f o
  have hsel : oscSelects con s ↔ same := by
    rw [oscSelects, oscScs_masked, oscIrcf_masked, oscPll_masked, oscScs_eq, oscIrcf_eq]
    rfl
  have hsrc : oscSrc s.cfg con = src := by rw [oscSrc_eq, oscScs_masked]
  have hfint (c n : Byte) : oscIntFreq s.cfg c n = fint c n := by
    simp only [oscIntFreq, oscTun_eq]
    rfl
  have hstored (c n : Byte) : oscStored c n s = { s with osc := { s.osc with con := c, tune := n, fInt := fint c n } } := by
    unfold oscStored
    rw [hfint]
  rw [exec_putOsccon, exec_putOsctune]
  refine ⟨fun hsame => ?stands, fun hsame hnone => ?internal, fun x hsame hx hext htarget => ?selected,
    fun x hsame hx hmoves => ?warmUp, ?tune⟩
  case stands => rw [writeOsc_kept h (hsel.2 hsame) rfl]
  case internal =>
    rw [writeOsc_internal h (hsel.not.2 hsame) (hsrc.trans hnone), hstored, hfint, onInternal, startSettle_eq]
    refine ⟨_, rfl, fun e => ?_⟩
    simp only [mem_insertEvent, List.mem_filter, bne_iff_ne, cancel_queue]
    tauto
  case selected => rw [writeOsc_external_stands h (hsel.not.2 hsame) (hsrc.trans hx) ⟨hext, htarget⟩, hstored]
  case warmUp =>
    intro g
    have hg : warmUpFreq x (oscStored con s.osc.tune s) = g := by
      rw [hstored]
      cases x <;> rfl
    have hext : (!(s.osc.state == .intRc)) = decide (s.osc.state ≠ .intRc) := by cases s.osc.state <;> rfl
    have hspec := warmingUp_spec x (s.osc.state == .intRc) (oscStored con s.osc.tune s)
    rw [writeOsc_external h (hsel.not.2 hsame) (hsrc.trans hx) (by tauto), hg]
    generalize warmingUp x (s.osc.state == .intRc) (oscStored con s.osc.tune s) = u at hspec ⊢
    rw [hstored] at hspec
    obtain ⟨⟨hevents, -⟩, hframe, hosc, hwarm, hsettle⟩ := hspec
    refine ⟨_, rfl, ?_, ?_, hwarm, ?_, hevents⟩
    · rw [hframe, hosc]
      rfl
    · rw [freqTold, hosc, hext]
    · refine hsettle.trans ?_
      simp only [beq_iff_eq]
      rfl
  case tune =>
    intro k p
    by_cases htun : v.toNat % 64 = s.osc.tune.toNat % 64
    · rw [if_pos htun, writeOsc_kept h ⟨rfl, rfl, rfl⟩ ((oscTun_masked v).trans (htun.trans (oscTun_eq _).symm))]
    · rw [if_neg htun, writeOsc_tuned h ⟨rfl, rfl, rfl⟩ fun heq => htun ((oscTun_masked v).symm.trans (heq.trans (oscTun_eq _))),
        hstored, hfint]
      split <;> rfl

/-! ### The two events -/

/-- The end of a warm-up of `x` publishes the source's frequency (R346). -/
theorem oscOstCallback_stable {x : ExtSrc} {s : State} (h : s.oscAlone) (hstate : s.osc.state = .ost)
    (htarget : s.osc.target = some x) : oscOstCallback signal s =
      freqTold (extFreq s.cfg x) { s with osc := { s.osc with state := .extStable } } := by
  rw [oscOstCallback, if_pos hstate]
  split
  next y hy =>
    obtain rfl := Option.some.inj (hy.symm.trans htarget)
    exact republish_alone (s := { s with osc := { s.osc with state := .extStable } }) h _
  next hnone => cases hnone.symm.trans htarget

theorem oscOstCallback_idle {s : State} (h : s.osc.state ≠ .ost ∨ s.osc.target = none) :
    oscOstCallback signal s = s := by
  unfold oscOstCallback
  split
  next hstate => rw [h.resolve_left fun hne => hne hstate]
  next => rfl

/-- The end of a settle delay settles the internal RC if it is the clock (R345). -/
theorem oscSettleCallback_eq (s : State) : oscSettleCallback s = { s with osc := { s.osc with
    settled := s.osc.settled || decide (s.osc.state = .intRc) || (decide (s.osc.state = .ost) && s.cfg.twoSpeed) } } := by
  have hruns : intRcRuns s = (decide (s.osc.state = .intRc) || (decide (s.osc.state = .ost) && s.cfg.twoSpeed)) := by
    unfold intRcRuns
    cases s.osc.state <;> rfl
  rw [oscSettleCallback, Bool.or_assoc, ← hruns]
  cases intRcRuns s with
  | true => rw [Bool.or_true, if_pos rfl]
  | false => rw [Bool.or_false, if_neg Bool.false_ne_true]

/-- Settles O52, by what each callback does at the one event that is due. -/
theorem oscillatorEvents : Obligations.OscillatorEvents := by
  intro rest s c
  have hstep {t : TrigId} (hdue : s.dueNext t rest) {u : Osc} {l : List OutRec} (hcall : callback t { s with
      now := s.now + 1, queue := rest, firing := some (t, s.now.toNat + 1) } = { s with
        now := s.now + 1, queue := rest, firing := some (t, s.now.toNat + 1), osc := u, out := l }) :
      exec .step s = .next { s with now := s.now + 1, queue := rest, osc := u, out := l } := by
    obtain ⟨⟨-, hidle, -⟩, hn, -, hlater⟩ := id hdue
    refine step_one hdue ?_ fun e he => ?_
    · rw [hcall, ← hidle]
    · exact lt_of_eq_of_lt (now_succ hn) (hlater e he)
  refine ⟨fun x hdue halone hstate htarget => ?stable, fun hdue hnone => ?idle, fun hdue => ?settled⟩
  case stable =>
    intro f
    have hf : extFreq s.cfg x = f := by cases x <;> rfl
    obtain ⟨-, hn, -⟩ := id hdue
    refine hstep hdue ((oscOstCallback_stable (s := { s with
      now := s.now + 1, queue := rest, firing := some (.oscOst, s.now.toNat + 1) }) halone hstate htarget).trans ?_)
    simp only [freqTold, State.freqRecords, hf, now_succ hn]
    rfl
  case idle => exact hstep hdue (oscOstCallback_idle hnone)
  case settled => exact hstep hdue (oscSettleCallback_eq _)

end Sys2Proof.Machine
end

section
/-!
Laws of what a counter that starts again changes: the counter named by its trigger, with that trigger's event, and nothing
else; and the start of Timer0, Timer1 and the NCO from their held counts (60_exceptions.md R456).
-/

namespace Sys2Proof.Machine

open Sys2Proof

/-! ### The units of some triggers move -/

/-- Nothing changed but the counters, and the oscillator with its publication, whose triggers stand in `ts`, and these
triggers' events. -/
structure Moved (ts : List TrigId) (s t : State) : Prop extends EventsStand ts s t where
  frame : t = { s with
    queue := t.queue, seq := t.seq, t0 := t.t0, t1 := t.t1, t2 := t.t2, t4 := t.t4, t6 := t.t6, nco := t.nco
    osc := t.osc, out := t.out }
  t0 : .t0Ovf ∉ ts → t.t0 = s.t0
  t1 : .t1Brk ∉ ts → t.t1 = s.t1
  tm : ∀ x, .tBrk x ∉ ts → t.tm x = s.tm x
  nco : .ncoOvf ∉ ts → t.nco = s.nco
  osc : .oscOst ∉ ts → t.osc = s.osc
  out : .oscOst ∉ ts → t.out = s.out

theorem Moved.refl (ts : List TrigId) (s : State) : Moved ts s s :=
  ⟨eventsStand_of_queue rfl, rfl, fun _ => rfl, fun _ => rfl, fun _ _ => rfl, fun _ => rfl, fun _ => rfl, fun _ => rfl⟩

theorem Moved.mono {ts us : List TrigId} {s t : State} (h : Moved ts s t) (hsub : ts ⊆ us) : Moved us s t := by
  have hnot {v : TrigId} (hv : v ∉ us) : v ∉ ts := fun hm => hv (hsub hm)
  exact ⟨h.toEventsStand.mono hsub, h.frame, fun k => h.t0 (hnot k), fun k => h.t1 (hnot k), fun x k => h.tm x (hnot k),
    fun k => h.nco (hnot k), fun k => h.osc (hnot k), fun k => h.out (hnot k)⟩

theorem Moved.trans {ts : List TrigId} {s t u : State} (a : Moved ts s t) (b : Moved ts t u) : Moved ts s u := by
  refine ⟨a.toEventsStand.trans b.toEventsStand, ?_, fun h => (b.t0 h).trans (a.t0 h), fun h => (b.t1 h).trans (a.t1 h),
    fun x h => (b.tm x h).trans (a.tm x h), fun h => (b.nco h).trans (a.nco h), fun h => (b.osc h).trans (a.osc h),
    fun h => (b.out h).trans (a.out h)⟩
  rw [b.frame, a.frame]

theorem Moved.append {ts us : List TrigId} {s t u : State} (a : Moved ts s t) (b : Moved us t u) :
    Moved (ts ++ us) s u :=
  (a.mono (List.subset_append_left ts us)).trans (b.mono (List.subset_append_right ts us))

/-- A change of single fields, the queue standing. -/
theorem moved_of_queue {ts : List TrigId} {s t : State} (hqueue : t.queue = s.queue)
    (hframe : t = { s with
      seq := t.seq, t0 := t.t0, t1 := t.t1, t2 := t.t2, t4 := t.t4, t6 := t.t6, nco := t.nco, osc := t.osc, out := t.out })
    (ht0 : .t0Ovf ∉ ts → t.t0 = s.t0 := by exact fun _ => rfl) (ht1 : .t1Brk ∉ ts → t.t1 = s.t1 := by exact fun _ => rfl)
    (htm : ∀ x, .tBrk x ∉ ts → t.tm x = s.tm x := by exact fun _ _ => rfl)
    (hnco : .ncoOvf ∉ ts → t.nco = s.nco := by exact fun _ => rfl)
    (hosc : .oscOst ∉ ts → t.osc = s.osc := by exact fun _ => rfl)
    (hout : .oscOst ∉ ts → t.out = s.out := by exact fun _ => rfl) : Moved ts s t := by
  refine ⟨eventsStand_of_queue hqueue, ?_, ht0, ht1, htm, hnco, hosc, hout⟩
  rw [hqueue]
  exact hframe

theorem moved_t0 (s : State) (u : Timer0) : Moved [.t0Ovf] s { s with t0 := u } :=
  moved_of_queue rfl rfl (ht0 := fun h => absurd (List.mem_singleton.2 rfl) h)

theorem moved_t1 (s : State) (u : Timer1) : Moved [.t1Brk] s { s with t1 := u } :=
  moved_of_queue rfl rfl (ht1 := fun h => absurd (List.mem_singleton.2 rfl) h)

theorem moved_nco (s : State) (u : Nco) : Moved [.ncoOvf] s { s with nco := u } :=
  moved_of_queue rfl rfl (hnco := fun h => absurd (List.mem_singleton.2 rfl) h)

theorem moved_osc (s : State) (u : Osc) (l : List OutRec) : Moved oscEvents s { s with osc := u, out := l } :=
  moved_of_queue rfl rfl (hosc := fun h => absurd oscOst_mem h) (hout := fun h => absurd oscOst_mem h)

theorem moved_setTm (s : State) (x : T2Id) (u : Timer2) : Moved [.tBrk x] s (s.setTm x u) := by
  refine moved_of_queue (setTm_queue x u s) (by cases x <;> rfl) (fun _ => setTm_t0 x u s) (fun _ => setTm_t1 x u s)
    (fun y hy => ?_) (fun _ => setTm_nco x u s) (fun _ => setTm_osc x u s) (fun _ => setTm_out x u s)
  exact setTm_tm_other x u s y fun h => hy (List.mem_singleton.2 (congrArg TrigId.tBrk h))

theorem moved_reschedule {ts : List TrigId} {u : TrigId} (hu : u ∈ ts) (c : Nat) (s : State) :
    Moved ts s (reschedule u c s) :=
  ⟨eventsStand_reschedule hu c s, by rw [reschedule_with], fun _ => reschedule_t0 u c s, fun _ => reschedule_t1 u c s,
    fun x _ => reschedule_tm u c s x, fun _ => reschedule_nco u c s, fun _ => reschedule_osc u c s,
    fun _ => reschedule_out u c s⟩

theorem moved_cancel {ts : List TrigId} {u : TrigId} (hu : u ∈ ts) (s : State) : Moved ts s (cancel u s) :=
  ⟨eventsStand_cancel hu s, rfl, fun _ => rfl, fun _ => rfl, fun x _ => cancel_tm u s x, fun _ => rfl, fun _ => rfl,
    fun _ => rfl⟩

/-- The trigger of a unit that moves if `c` says so. -/
def movers (c : Bool) (u : TrigId) : List TrigId := if c then [u] else []

theorem mem_movers {c : Bool} {u v : TrigId} : v ∈ movers c u ↔ c = true ∧ v = u := by
  cases c <;> simp [movers]

theorem moved_ite {c : Bool} {u : TrigId} {s t : State} (h : c = true → Moved [u] s t) :
    Moved (movers c u) s (if c then t else s) := by
  cases c with
  | true => exact h rfl
  | false => exact .refl _ s

section
variable {ts : List TrigId} {s t : State} (h : Moved ts s t)
include h

theorem Moved.cfg : t.cfg = s.cfg := by rw [h.frame]
theorem Moved.now : t.now = s.now := by rw [h.frame]
theorem Moved.sleeping : t.sleeping = s.sleeping := by rw [h.frame]
theorem Moved.busDepth : t.busDepth = s.busDepth := by rw [h.frame]
theorem Moved.subsOf (k : ChanKind) : t.subsOf k = s.subsOf k := by rw [h.frame]; rfl
theorem Moved.ccp (i : CcpId) : t.ccp i = s.ccp i := by rw [h.frame]; cases i <;> rfl

theorem Moved.t1RunCond (hts : .t1Brk ∉ ts) : t1RunCond t = t1RunCond s := by
  simp only [Machine.t1RunCond, t1GateOk, t1GateLevel, h.t1 hts, h.cfg, h.sleeping]

theorem Moved.t2RatioNow {x : T2Id} (hts : .tBrk x ∉ ts) (hosc : .oscOst ∉ ts) :
    t2RatioNow t x = t2RatioNow s x := by
  simp only [Machine.t2RatioNow, h.tm x hts, h.cfg, h.osc hosc]

theorem Moved.ncoRun (hts : .ncoOvf ∉ ts) : ncoRun t = ncoRun s := by
  simp only [Machine.ncoRun, h.nco hts, h.sleeping]

theorem Moved.t2RunCond {x : T2Id} (hts : .tBrk x ∉ ts) : t2RunCond t x = t2RunCond s x := by
  simp only [Machine.t2RunCond, h.tm x hts, h.cfg, h.sleeping]

end

/-! ### The first cycle of an input clock ahead -/

theorem tin_whole (m c : Nat) : tin ⟨m, 1⟩ c = ((m * c : Nat) : Int) := by
  rw [tin, Nat.div_one, Nat.mul_comm]

/-- Where one or four input clocks make a cycle, the `d`-th clock from cycle `c` on comes `ceil(d / m)` cycles later
(R202). -/
theorem cycleOf_ahead {m : Nat} (hm : m = 1 ∨ m = 4) (c d : Nat) :
    (cycleOf ⟨m, 1⟩ ((((m * c : Nat) : Int) + (d : Int) : Int) : Rat)).toNat = c + (d + m - 1) / m := by
  have hceil (q : Rat) : q.ceil = ⌈q⌉ := Rat.ceil_eq_neg_floor_neg q
  rw [cycleOf, Nat.cast_one, mul_one, hceil, Rat.ceil_intCast_div_natCast]
  rcases hm with rfl | rfl
  · push_cast
    omega
  · push_cast
    omega

end Sys2Proof.Machine
end

section
/-!
Laws of WAKE for Timer0, Timer1 and the NCO (60_exceptions.md R456): each goes on from its held count, with its event where
that count puts it (R211, R219, R402), and reads on as it did.
-/

namespace Sys2Proof.Machine

open Sys2Proof

/-! ### Timer0 -/

/-- Timer0 of the awake block `s` as `t` has it: started from its held count if its run condition holds, else as it was
(R211, R456). -/
def T0Woken (s t : State) : Prop :=
  if t0RunCond s = true then
    t.t0 = { s.t0 with run := true, anchor := (s.now.toNat : Int) - (s.t0.held.toNat * t0Div s.t0.con : Nat) } ∧
    ∃ ins, t.pending .t0Ovf = some (s.now.toNat + (256 - s.t0.held.toNat) * t0Div s.t0.con, ins)
  else t.t0 = s.t0

theorem moved_wakeT0 (s : State) : Moved (movers (t0RunCond s) .t0Ovf) s (wakeT0 s) :=
  moved_ite fun _ => (moved_t0 s _).trans (moved_reschedule (List.mem_singleton.2 rfl) _ _)

theorem t0Woken_wakeT0 (s : State) : T0Woken s (wakeT0 s) := by
  unfold T0Woken wakeT0
  split
  next =>
    rw [t0Start_eq]
    refine ⟨(reschedule_t0 _ _ _).trans ?_, _, pending_reschedule_same _ _ _⟩
    rw [t0Restarted]
    push_cast
    rfl
  next => rfl

theorem T0Woken.moved {ts : List TrigId} {s t u : State} (h : T0Woken s t) (hm : Moved ts t u) (hts : .t0Ovf ∉ ts) :
    T0Woken s u := by
  unfold T0Woken at *
  rw [hm.t0 hts, hm.pending _ hts]
  exact h

/-- Timer0 reads its held count (R212). -/
theorem T0Woken.count {s t : State} (h : T0Woken s t) (hrun : s.t0.run = false) (hnow : t.now = s.now) :
    t0Count t = t0Count s := by
  have hheld : t0Count s = s.t0.held := if_neg (ne_true_of_eq_false hrun)
  unfold T0Woken at h
  split at h
  next =>
    obtain ⟨ht0, -⟩ := h
    have habs := ediv_anchor s.now.toNat s.t0.held.toNat (t0Div s.t0.con) (t0Div_pos s.t0.con)
    rw [hheld, t0Count, t0Abs, State.cycle, hnow, ht0]
    push_cast
    exact (congrArg (BitVec.ofInt 8) habs).trans (by simp)
  next => simp only [t0Count, t0Abs, State.cycle, h, hnow]

/-! ### Timer1 -/

/-- From a 16-bit count, the next match of a compare value in counts from 0 (R219). -/
theorem t1MatchAt_natCast {v : Nat} (hv : v < 65536) (w : Half) : t1MatchAt v w = (t1Position v w : Int) := by
  have hw := w.isLt
  unfold t1MatchAt t1Position
  dsimp only
  split
  · rw [if_neg (by omega)]
    omega
  · rw [if_pos (by omega)]
    omega

/-- From a 16-bit count, the count of Timer1's next breakpoint (R219). -/
theorem t1Next_natCast {v : Nat} (hv : v < 65536) (cmp : List (CcpId × Half)) :
    t1Next cmp v = (t1NextPosition v cmp : Int) := by
  have hroll : (v : Int) - (v : Int) % 65536 + 65536 = ((65536 : Nat) : Int) := by omega
  rw [t1Next, t1NextPosition, hroll]
  exact List.foldl_hom (fun n : Nat => (n : Int)) fun m e => by rw [t1MatchAt_natCast hv]; omega

theorem lt_t1NextPosition {v : Nat} (hv : v < 65536) (cmp : List (CcpId × Half)) : v < t1NextPosition v cmp := by
  have hnext := (isNextHit_t1Next cmp v).ahead
  rw [t1Next_natCast hv] at hnext
  omega

/-- The kinds of the breakpoint of Timer1 at the count `v` (R219). -/
def t1KindsFrom (v : Nat) (cmp : List (CcpId × Half)) : T1Kinds where
  roll := t1NextPosition v cmp == 65536
  cmp1 := cmp.any (fun e => e.1 == .ccp1 && t1Position v e.2 == t1NextPosition v cmp)
  cmp2 := cmp.any (fun e => e.1 == .ccp2 && t1Position v e.2 == t1NextPosition v cmp)

/-- The recomputation of a running Timer1 at a 16-bit count (R219). -/
theorem t1Recompute_from {s : State} {v : Nat} (hrun : s.t1.run = true) (habs : t1Abs s = v) (hv : v < 65536) :
    t1Recompute s = reschedule .t1Brk
      (cycleOf (t1Ratio s.t1.con)
        ((s.t1.anchor + (t1NextPosition v s.t1.cmp : Int) * (t1Div s.t1.con : Int) : Int) : Rat)).toNat
      { s with t1 := { s.t1 with
        breakValue := some (t1NextPosition v s.t1.cmp), breakKind := t1KindsFrom v s.t1.cmp } } := by
  have hbest : s.t1.cmp.foldl (fun m e => min m (t1MatchAt v e.2)) ((v : Int) - (v : Int) % 65536 + 65536) =
      (t1NextPosition v s.t1.cmp : Int) := t1Next_natCast hv s.t1.cmp
  have hroll : ((v : Int) - (v : Int) % 65536 + 65536 == (t1NextPosition v s.t1.cmp : Int)) =
      (t1NextPosition v s.t1.cmp == 65536) := by
    rw [Bool.eq_iff_iff, beq_iff_eq, beq_iff_eq]
    omega
  have hhit (e : CcpId × Half) : (t1MatchAt v e.2 == (t1NextPosition v s.t1.cmp : Int)) =
      (t1Position v e.2 == t1NextPosition v s.t1.cmp) := by
    rw [Bool.eq_iff_iff, beq_iff_eq, beq_iff_eq, t1MatchAt_natCast hv]
    omega
  simp only [t1Recompute, if_pos hrun, habs, hbest, hroll, hhit, Int.toNat_natCast]
  rfl

/-- Timer1 of the awake block `s` as `t` has it: started from its held count if its run condition holds, else as it was
(R219, R456). -/
def T1Woken (s t : State) : Prop :=
  let v := s.t1.held.toNat
  let k : Nat := if t1Cs s.t1.con = 1 then 4 else 1
  let d := t1NextPosition v s.t1.cmp
  if t1RunCond s = true then
    t.t1 = { s.t1 with
      run := true, anchor := ((k * s.now.toNat : Nat) : Int) - (v * t1Div s.t1.con : Nat), breakValue := some d
      breakKind := t1KindsFrom v s.t1.cmp } ∧
    ∃ ins, t.pending .t1Brk = some (s.now.toNat + ((d - v) * t1Div s.t1.con + k - 1) / k, ins)
  else t.t1 = s.t1

/-- One or four input clocks a cycle (R218). -/
theorem t1Ratio_eq (con : Byte) : t1Ratio con = ⟨if t1Cs con = 1 then 4 else 1, 1⟩ := by
  unfold t1Ratio
  split <;> rfl

theorem moved_t1Recompute (s : State) : Moved [.t1Brk] s (t1Recompute s) := by
  unfold t1Recompute
  dsimp only
  split
  · exact (moved_t1 s _).trans (moved_reschedule (List.mem_singleton.2 rfl) _ _)
  · exact (moved_t1 s _).trans (moved_cancel (List.mem_singleton.2 rfl) _)

theorem moved_wakeT1 (s : State) : Moved (movers (t1RunCond s) .t1Brk) s (wakeT1 s) := by
  refine moved_ite fun _ => ?_
  rw [t1Update_eq]
  exact (moved_t1 s _).trans (moved_t1Recompute _)

theorem t1Woken_wakeT1 (s : State) : T1Woken s (wakeT1 s) := by
  unfold T1Woken wakeT1
  dsimp only
  split
  next hcond =>
    have hv := s.t1.held.isLt
    have hd := lt_t1NextPosition (v := s.t1.held.toNat) hv s.t1.cmp
    have hk : (if t1Cs s.t1.con = 1 then 4 else 1) = 1 ∨ (if t1Cs s.t1.con = 1 then 4 else 1) = 4 := by
      split
      · exact .inr rfl
      · exact .inl rfl
    have hrestarted : t1Restarted s.t1.held s = { s with t1 := { s.t1 with
        run := true
        anchor := (((if t1Cs s.t1.con = 1 then 4 else 1) * s.now.toNat : Nat) : Int) -
          (s.t1.held.toNat * t1Div s.t1.con : Nat) } } := by
      rw [t1Restarted, if_pos hcond, t1Ratio_eq, tin_whole]
      push_cast
      rfl
    have hrun : (t1Restarted s.t1.held s).t1.run = true := by rw [hrestarted]
    have habs := t1Abs_restarted hrun
    rw [t1Update_eq, t1Recompute_from hrun habs hv, hrestarted]
    dsimp only
    refine ⟨reschedule_t1 _ _ _, s.seq, (pending_reschedule_same _ _ _).trans ?_⟩
    rw [t1Ratio_eq, ← cycleOf_ahead hk]
    congr 5
    push_cast [hd.le]
    ring
  next => rfl

theorem T1Woken.moved {ts : List TrigId} {s t u : State} (h : T1Woken s t) (hm : Moved ts t u) (hts : .t1Brk ∉ ts) :
    T1Woken s u := by
  unfold T1Woken at *
  rw [hm.t1 hts, hm.pending _ hts]
  exact h

/-- Timer1 starts the same after a move of other units. -/
theorem T1Woken.after {ts : List TrigId} {s t u : State} (h : T1Woken t u) (hm : Moved ts s t) (hts : .t1Brk ∉ ts) :
    T1Woken s u := by
  unfold T1Woken at *
  rw [hm.t1RunCond hts, hm.t1 hts, hm.now] at h
  exact h

/-- Timer1 reads its held count (R220). -/
theorem T1Woken.count {s t : State} (h : T1Woken s t) (hrun : s.t1.run = false) (hnow : t.now = s.now) :
    t1Count t = t1Count s := by
  have hheld : t1Count s = s.t1.held := if_neg (ne_true_of_eq_false hrun)
  unfold T1Woken at h
  dsimp only at h
  split at h
  next =>
    obtain ⟨ht1, -⟩ := h
    have habs := ediv_anchor ((if t1Cs s.t1.con = 1 then 4 else 1) * s.now.toNat : Nat) s.t1.held.toNat
      (t1Div s.t1.con) (t1Div_pos s.t1.con)
    rw [hheld, t1Count, t1Abs, State.cycle, hnow, ht1, t1Ratio_eq, tin_whole]
    push_cast at habs ⊢
    exact (congrArg (BitVec.ofInt 16) habs).trans (by simp)
  next => simp only [t1Count, t1Abs, State.cycle, h, hnow]

/-! ### The NCO -/

/-- The NCO of the awake block `s` as `t` has it: started from its accumulator if it runs now, else as it was (R402,
R456). -/
def NcoWoken (s t : State) : Prop :=
  let k : Nat := if ncoCks s.nco = 1 then 4 else 1
  let clocks := (2 ^ 20 - s.nco.acc.toNat + s.nco.inc.toNat - 1) / s.nco.inc.toNat
  if ncoRun s = true then
    t.nco = { s.nco with anchor := ((k * s.now.toNat : Nat) : Int) } ∧
    (s.nco.inc = 0 → t.pending .ncoOvf = none) ∧
    (s.nco.inc ≠ 0 → ∃ ins, t.pending .ncoOvf = some (s.now.toNat + (clocks + k - 1) / k, ins))
  else t.nco = s.nco

/-- One or four input clocks a cycle (R400). -/
theorem ncoRatio_eq (n : Nco) : ncoRatio n = ⟨if ncoCks n = 1 then 4 else 1, 1⟩ := by
  unfold ncoRatio
  split <;> rfl

/-- The input clocks up to the overflow (R402). -/
theorem ncoClocks_natCast (acc : BitVec 20) (inc : Nat) (hinc : 0 < inc) :
    -((-(2 ^ 20 - (acc.toNat : Int))) / (inc : Int)) = ((2 ^ 20 - acc.toNat + inc - 1) / inc : Nat) := by
  have hacc := acc.isLt
  obtain ⟨x, hx⟩ : ∃ x, 2 ^ 20 - acc.toNat = x := ⟨_, rfl⟩
  have hleft : (2 ^ 20 : Int) - acc.toNat = x := by omega
  have hpos : (0 : Int) < inc := by exact_mod_cast hinc
  have hdiv := Nat.div_add_mod (x + inc - 1) inc
  have hmod := Nat.mod_lt (x + inc - 1) hinc
  rw [hx, hleft, neg_eq_iff_eq_neg]
  generalize (x + inc - 1) / inc = q at *
  have hlow : (x : Int) ≤ inc * q := by
    have : x ≤ inc * q := by omega
    exact_mod_cast this
  have hhigh : (inc * q : Int) < x + inc := by
    have : inc * q < x + inc := by omega
    exact_mod_cast this
  refine le_antisymm (Int.lt_add_one_iff.1 ((Int.ediv_lt_iff_lt_mul hpos).2 ?_)) ((Int.le_ediv_iff_mul_le hpos).2 ?_)
  · linarith
  · linarith

/-- Without an increment no overflow is due (R402). -/
theorem pending_ncoRecompute_zero {s : State} (hinc : s.nco.inc = 0) : (ncoRecompute s).pending .ncoOvf = none := by
  rw [ncoRecompute, hinc, bne_self_eq_false, Bool.and_false, if_neg Bool.false_ne_true]
  exact pending_cancel_same _ _

/-- The overflow of a running NCO that is anchored at cycle `c` (R402). -/
theorem pending_ncoRecompute_running {s : State} {c : Nat} (hrun : ncoRun s = true) (hinc : s.nco.inc ≠ 0)
    (hanchor : s.nco.anchor = (((if ncoCks s.nco = 1 then 4 else 1) * c : Nat) : Int)) :
    (ncoRecompute s).pending .ncoOvf = some
      (c + ((2 ^ 20 - s.nco.acc.toNat + s.nco.inc.toNat - 1) / s.nco.inc.toNat +
        (if ncoCks s.nco = 1 then 4 else 1) - 1) / (if ncoCks s.nco = 1 then 4 else 1), s.seq) := by
  have hpos : 0 < s.nco.inc.toNat := Nat.pos_of_ne_zero fun h => hinc (BitVec.eq_of_toNat_eq h)
  have hgoes : (ncoRun s && s.nco.inc != 0) = true := by
    rw [hrun]
    exact bne_iff_ne.2 hinc
  have hk : (if ncoCks s.nco = 1 then 4 else 1) = 1 ∨ (if ncoCks s.nco = 1 then 4 else 1) = 4 := by
    split
    · exact .inr rfl
    · exact .inl rfl
  simp only [ncoRecompute, if_pos hgoes]
  rw [ncoClocks_natCast _ _ hpos, hanchor, ← cycleOf_ahead hk, ncoRatio_eq]
  exact pending_reschedule_same _ _ _

theorem ncoRecompute_nco (s : State) : (ncoRecompute s).nco = s.nco := by
  unfold ncoRecompute
  dsimp only
  split
  · exact reschedule_nco _ _ _
  · rfl

theorem moved_ncoRecompute (s : State) : Moved [.ncoOvf] s (ncoRecompute s) := by
  unfold ncoRecompute
  dsimp only
  split
  · exact moved_reschedule (List.mem_singleton.2 rfl) _ _
  · exact moved_cancel (List.mem_singleton.2 rfl) _

theorem ncoReanchor_running {s : State} (hrun : ncoRun s = true) : ncoReanchor s = { s with nco := { s.nco with
    anchor := (((if ncoCks s.nco = 1 then 4 else 1) * s.now.toNat : Nat) : Int) } } := by
  rw [ncoReanchor, if_pos hrun, ncoRatio_eq, tin_whole]
  rfl

theorem moved_wakeNco (s : State) : Moved (movers (ncoRun s) .ncoOvf) s (wakeNco s) := by
  refine moved_ite fun hrun => ?_
  rw [ncoReanchor_running hrun]
  exact (moved_nco s _).trans (moved_ncoRecompute _)

theorem ncoWoken_wakeNco (s : State) : NcoWoken s (wakeNco s) := by
  unfold NcoWoken wakeNco
  dsimp only
  split
  next hrun =>
    rw [ncoReanchor_running hrun]
    refine ⟨ncoRecompute_nco _, fun hinc => ?_, fun hinc => ⟨s.seq, ?_⟩⟩
    · exact pending_ncoRecompute_zero (by exact hinc)
    · exact pending_ncoRecompute_running (by exact hrun) (by exact hinc) rfl
  next => rfl

theorem NcoWoken.moved {ts : List TrigId} {s t u : State} (h : NcoWoken s t) (hm : Moved ts t u) (hts : .ncoOvf ∉ ts) :
    NcoWoken s u := by
  unfold NcoWoken at *
  rw [hm.nco hts, hm.pending _ hts]
  exact h

/-- The NCO starts the same after a move of other units. -/
theorem NcoWoken.after {ts : List TrigId} {s t u : State} (h : NcoWoken t u) (hm : Moved ts s t) (hts : .ncoOvf ∉ ts) :
    NcoWoken s u := by
  unfold NcoWoken at *
  rw [hm.ncoRun hts, hm.nco hts, hm.now] at h
  exact h

/-- The NCO reads the accumulator it held (R400). -/
theorem NcoWoken.accumulator {s t : State} (h : NcoWoken s t) (hsleeping : t.sleeping = s.sleeping)
    (hnow : t.now = s.now) : accNow t = s.nco.acc := by
  unfold NcoWoken at h
  dsimp only at h
  unfold accNow
  split at h
  next hrun =>
    obtain ⟨hnco, -⟩ := h
    have hzero : tin (ncoRatio t.nco) t.cycle - t.nco.anchor = 0 := by
      rw [State.cycle, hnow, ncoRatio_eq, tin_whole, hnco]
      exact sub_self _
    rw [accAt, hzero, hnco]
    simp
  next hrun =>
    have hstill : ncoRun t = ncoRun s := by rw [Machine.ncoRun, h, hsleeping, Machine.ncoRun]
    rw [hstill, if_neg hrun, h]

end Sys2Proof.Machine
end

section
/-!
Laws of WAKE for the Timer2 family (60_exceptions.md R456; 42_timers.md R239, R242): an instance goes on from its held count
with its breakpoint where that count puts it, and a change of its clock ratio starts it once more from the same count.
-/

namespace Sys2Proof.Machine

open Sys2Proof

/-! ### The breakpoint of an instance anchored at a count -/

theorem t2CycleOf_congr {s t : State} {x : T2Id} (hnow : t.now = s.now) (hratio : (t.tm x).ratio = (s.tm x).ratio)
    (hanchor : (t.tm x).anchor = (s.tm x).anchor) (q : Rat) : t2CycleOf t x q = t2CycleOf s x q := by
  rw [t2CycleOf, State.cycle, hnow, hratio, hanchor]
  rfl

theorem t2MaskAt_congr {s t : State} {x : T2Id} (hnow : t.now = s.now) (hratio : (t.tm x).ratio = (s.tm x).ratio)
    (hanchor : (t.tm x).anchor = (s.tm x).anchor) (q : Rat) (l : List (Rat × Byte)) :
    t2MaskAt t x q l = t2MaskAt s x q l := by
  simp only [t2MaskAt, t2CycleOf_congr hnow hratio hanchor]

/-- An instance that counts `v` has its breakpoint among the positions from `v` (R239). -/
theorem t2Candidates_count {s : State} {x : T2Id} {v : Nat} (h : t2Abs s x = v) :
    t2Candidates false s x = s.t2Positions x v := by
  simp only [t2Candidates, State.t2Positions, h, Bool.false_or, decide_eq_true_eq, Nat.cast_le]

/-- The positions are those of the registers, the list of units and the duties. -/
theorem t2Positions_congr {s t : State} {x : T2Id} (hccp : ∀ i, t.ccp i = s.ccp i)
    (htm : (t.tm x).standing = (s.tm x).standing) (v : Nat) : t.t2Positions x v = s.t2Positions x v := by
  have hpr := field_of_t2_standing htm Timer2.pr
  have hcon := field_of_t2_standing htm Timer2.con
  have hpwm := field_of_t2_standing htm Timer2.pwm
  simp only [State.t2Positions, t2PeriodAt, t2Duties, hccp, hpr, hcon, hpwm]

/-- The breakpoint that the recomputation of a running instance stores (R239). -/
theorem tm_t2Recompute {x : T2Id} {s : State} (hrun : (s.tm x).run = true) : (t2Recompute x s).tm x = { s.tm x with
    breakValue := some (leastKey (t2Candidates false s x))
    breakMask := t2MaskAt s x (leastKey (t2Candidates false s x)) (t2Candidates false s x) } := by
  rw [t2Recompute, t2Place]
  dsimp only
  rw [if_pos hrun, reschedule_tm, setTm_tm_same]

theorem moved_t2Recompute (x : T2Id) (s : State) : Moved [.tBrk x] s (t2Recompute x s) := by
  unfold t2Recompute t2Place
  dsimp only
  split
  · exact (moved_setTm s x _).trans (moved_reschedule (List.mem_singleton.2 rfl) _ _)
  · exact (moved_setTm s x _).trans (moved_cancel (List.mem_singleton.2 rfl) _)

theorem moved_t2Update (x : T2Id) (v : Byte) (s : State) : Moved [.tBrk x] s (t2Update x v s) := by
  rw [t2Update_eq]
  exact (moved_setTm s x _).trans (moved_t2Recompute x _)

/-! ### An instance that goes on from its held count -/

/-- The anchor, in the ratio `k`, from which the held count goes on at this cycle (R233). -/
def State.heldAnchor (s : State) (x : T2Id) (k : Ratio) : Int :=
  tin k s.now.toNat - ((s.tm x).held.toNat * t2Div (s.tm x).con : Nat)

/-- In `t` the instance runs from the count that it holds in `s`, in whatever ratio, with its breakpoint placed (R239,
R456). -/
structure T2Resumed (x : T2Id) (s t : State) : Prop where
  timer : t.tm x = { s.tm x with
    run := true, ratio := (t.tm x).ratio, anchor := s.heldAnchor x (t.tm x).ratio
    breakValue := some (leastKey (s.t2Positions x (s.tm x).held.toNat))
    breakMask := t2MaskAt t x (leastKey (s.t2Positions x (s.tm x).held.toNat))
      (s.t2Positions x (s.tm x).held.toNat) }
  pending : ∃ ins, t.pending (.tBrk x) = some
    (max s.now.toNat (cycleOf (t.tm x).ratio ((s.heldAnchor x (t.tm x).ratio : Rat) +
      leastKey (s.t2Positions x (s.tm x).held.toNat))).toNat, ins)
  fixed : t2Clk s.cfg (s.tm x).clkcon ≠ .intRc → (t.tm x).ratio = t2RatioNow s x

/-- The instance of the awake block `s` as `t` has it: gone on from its held count if its run condition holds, else as it
was (R456). -/
def T2Woken (x : T2Id) (s t : State) : Prop :=
  if t2RunCond s x = true then T2Resumed x s t else t.tm x = s.tm x

/-- Nothing of the instance but its run, its anchor, its ratio and its breakpoint has changed. -/
structure HoldsCount (x : T2Id) (s t : State) : Prop where
  standing : (t.tm x).standing = (s.tm x).standing
  held : (t.tm x).held = (s.tm x).held

/-- A running instance has nothing else than `HoldsCount` says. -/
theorem HoldsCount.timer {x : T2Id} {s t : State} (h : HoldsCount x s t) (k : Ratio) (a : Int) (b : Option Rat)
    (m : Byte) :
    { t.tm x with run := true, ratio := k, anchor := a, breakValue := b, breakMask := m } =
      { s.tm x with run := true, ratio := k, anchor := a, breakValue := b, breakMask := m } := by
  obtain ⟨hst, hheld⟩ := h
  have hput (u : Timer2) : { u with run := true, ratio := k, anchor := a, breakValue := b, breakMask := m } =
      { u.standing with
        run := true, ratio := k, anchor := a, held := u.held, breakValue := b, breakMask := m } := rfl
  rw [hput (t.tm x), hput (s.tm x), hst, hheld]

theorem T2Resumed.holdsCount {x : T2Id} {s t : State} (h : T2Resumed x s t) : HoldsCount x s t :=
  ⟨by rw [h.timer]; rfl, by rw [h.timer]⟩

theorem HoldsCount.runCond {x : T2Id} {s t : State} (h : HoldsCount x s t) {ts : List TrigId} (hm : Moved ts s t) :
    t2RunCond t x = t2RunCond s x := by
  have hst := h.standing
  simp only [t2RunCond, hm.cfg, hm.sleeping, field_of_t2_standing hst Timer2.hlt, field_of_t2_standing hst Timer2.con,
    field_of_t2_standing hst Timer2.armed, field_of_t2_standing hst Timer2.ers,
    field_of_t2_standing hst Timer2.clkcon]

/-- The ratio of an instance not on the internal RC is its clock entry's (R42). -/
theorem t2RatioNow_fixed {s t : State} {x : T2Id} (hcfg : t.cfg = s.cfg) (hclk : (t.tm x).clkcon = (s.tm x).clkcon)
    (h : t2Clk s.cfg (s.tm x).clkcon ≠ .intRc) : t2RatioNow t x = t2RatioNow s x := by
  simp only [t2RatioNow, hcfg, hclk]
  cases hentry : t2Clk s.cfg (s.tm x).clkcon with
  | intRc => exact absurd hentry h
  | _ => rfl

theorem t2RatioNow_congr {s t : State} {x : T2Id} (hcfg : t.cfg = s.cfg) (hosc : t.osc = s.osc)
    (hclk : (t.tm x).clkcon = (s.tm x).clkcon) : t2RatioNow t x = t2RatioNow s x := by
  simp only [t2RatioNow, hcfg, hosc, hclk]

/-- An instance anchored at its held count, in whatever ratio, has its breakpoint placed from there (R239). -/
theorem t2Resumed_recompute {x : T2Id} {s r : State} {ts : List TrigId} {k : Ratio} {u : Timer2} (hm : Moved ts s r)
    (h : HoldsCount x s r) (hr : r.tm x = { u with run := true, ratio := k, anchor := s.heldAnchor x k })
    (hfixed : t2Clk s.cfg (s.tm x).clkcon ≠ .intRc → k = t2RatioNow s x) : T2Resumed x s (t2Recompute x r) := by
  have hrun : (r.tm x).run = true := by rw [hr]
  have hratio : (r.tm x).ratio = k := by rw [hr]
  have hanchor : (r.tm x).anchor = s.heldAnchor x k := by rw [hr]
  have hcands : t2Candidates false r x = s.t2Positions x (s.tm x).held.toNat := by
    have habs : t2Abs r x = (s.tm x).held.toNat := by
      have hcount := ediv_anchor (tin k s.now.toNat) (s.tm x).held.toNat (t2Div (s.tm x).con) (t2Div_pos _)
      rw [t2Abs, hratio, hanchor, State.cycle, hm.now, field_of_t2_standing h.standing Timer2.con, State.heldAnchor]
      push_cast
      exact hcount
    rw [t2Candidates_count habs, t2Positions_congr hm.ccp h.standing]
  have htm := tm_t2Recompute hrun
  have hplaced := (t2Recompute_running hrun rfl).pending
  rw [hcands] at htm hplaced
  have hratio' : ((t2Recompute x r).tm x).ratio = k := by rw [htm, hratio]
  refine ⟨?timer, ⟨r.seq, ?pending⟩, fun hclk => hratio'.trans (hfixed hclk)⟩
  case timer =>
    have hmask (q : Rat) (l : List (Rat × Byte)) : t2MaskAt (t2Recompute x r) x q l = t2MaskAt r x q l :=
      t2MaskAt_congr (moved_t2Recompute x r).now (by rw [htm]) (by rw [htm]) q l
    rw [hratio', hmask, ← h.timer, htm, hr]
  case pending =>
    rw [hplaced, hratio', t2CycleOf, hratio, hanchor, State.cycle, hm.now]

/-- `T2Update` at the held count (R233). -/
theorem t2Resumed_update {x : T2Id} {s u : State} {ts : List TrigId} (hm : Moved ts s u) (h : HoldsCount x s u)
    (hcond : t2RunCond s x = true) :
    T2Resumed x s (t2Update x (s.tm x).held u) ∧
      ((t2Update x (s.tm x).held u).tm x).ratio = t2RatioNow (t2Update x (s.tm x).held u) x := by
  have hcon := field_of_t2_standing h.standing Timer2.con
  have hu : t2Restarted x (s.tm x).held u = u.setTm x { u.tm x with
      run := true, ratio := t2RatioNow u x, anchor := s.heldAnchor x (t2RatioNow u x) } := by
    rw [t2Restarted, h.runCond hm, if_pos hcond, hcon, State.cycle, hm.now, State.heldAnchor]
    push_cast
    rfl
  have hresumed := t2Resumed_recompute (hm.append (moved_setTm u x _)) ⟨?standing, ?held⟩
    (setTm_tm_same x { u.tm x with
      run := true, ratio := t2RatioNow u x, anchor := s.heldAnchor x (t2RatioNow u x) } u)
    fun hclk => t2RatioNow_fixed hm.cfg (field_of_t2_standing h.standing Timer2.clkcon) hclk
  case standing =>
    rw [setTm_tm_same]
    exact h.standing
  case held =>
    rw [setTm_tm_same]
    exact h.held
  rw [← hu, ← t2Update_eq] at hresumed
  have hmoved := moved_t2Update x (s.tm x).held u
  refine ⟨hresumed, ?_⟩
  have hclk : ((t2Update x (s.tm x).held u).tm x).clkcon = (u.tm x).clkcon :=
    (field_of_t2_standing hresumed.holdsCount.standing Timer2.clkcon).trans
      (field_of_t2_standing h.standing Timer2.clkcon).symm
  rw [t2RatioNow_congr hmoved.cfg (hmoved.osc (by simp)) hclk, t2Update_eq, hu, tm_t2Recompute (by rw [setTm_tm_same])]
  rw [setTm_tm_same]

/-! ### WAKE of an instance, and a new ratio -/

theorem moved_wakeT2 (x : T2Id) (s : State) : Moved (movers (t2RunCond s x) (.tBrk x)) s (wakeT2 x s) :=
  moved_ite fun _ => moved_t2Update x _ s

theorem t2Woken_wakeT2 {x : T2Id} {s u : State} {ts : List TrigId} (hm : Moved ts s u) (hts : .tBrk x ∉ ts) :
    T2Woken x s (wakeT2 x u) := by
  unfold T2Woken wakeT2
  rw [hm.t2RunCond hts, hm.tm x hts]
  split
  next hcond => exact (t2Resumed_update hm ⟨by rw [hm.tm x hts], by rw [hm.tm x hts]⟩ hcond).1
  next => exact hm.tm x hts

theorem T2Woken.resumed {x : T2Id} {s t : State} (h : T2Woken x s t) (hcond : t2RunCond s x = true) :
    T2Resumed x s t := by
  unfold T2Woken at h
  rwa [if_pos hcond] at h

theorem T2Woken.stands {x : T2Id} {s t : State} (h : T2Woken x s t) (hcond : ¬ t2RunCond s x = true) :
    t.tm x = s.tm x := by
  unfold T2Woken at h
  rwa [if_neg hcond] at h

theorem T2Resumed.woken {x : T2Id} {s t : State} (h : T2Resumed x s t) (hcond : t2RunCond s x = true) :
    T2Woken x s t := by
  unfold T2Woken
  rwa [if_pos hcond]

theorem T2Woken.moved {x : T2Id} {ts : List TrigId} {s t u : State} (h : T2Woken x s t) (hm : Moved ts t u)
    (hts : .tBrk x ∉ ts) : T2Woken x s u := by
  by_cases hcond : t2RunCond s x = true
  · have hmask (q : Rat) (l : List (Rat × Byte)) : t2MaskAt u x q l = t2MaskAt t x q l :=
      t2MaskAt_congr hm.now (by rw [hm.tm x hts]) (by rw [hm.tm x hts]) q l
    obtain ⟨htimer, hpending, hfixed⟩ := h.resumed hcond
    refine T2Resumed.woken ⟨?_, ?_, ?_⟩ hcond
    · rw [hm.tm x hts, hmask]
      exact htimer
    · rw [hm.tm x hts, hm.pending _ hts]
      exact hpending
    · rw [hm.tm x hts]
      exact hfixed
  · unfold T2Woken
    rw [if_neg hcond, hm.tm x hts]
    exact h.stands hcond

/-- The instance reads its held count (R232). -/
theorem T2Resumed.count {x : T2Id} {s t : State} (h : T2Resumed x s t) (hnow : t.now = s.now) :
    t2Count t x = (s.tm x).held := by
  have hcount := ediv_anchor (tin (t.tm x).ratio s.now.toNat) (s.tm x).held.toNat (t2Div (s.tm x).con) (t2Div_pos _)
  have hrun : (t.tm x).run = true := by rw [h.timer]
  have hanchor : (t.tm x).anchor = s.heldAnchor x (t.tm x).ratio := congrArg Timer2.anchor h.timer
  have habs : t2Abs t x = (s.tm x).held.toNat := by
    rw [t2Abs, hanchor, State.cycle, hnow, field_of_t2_standing h.holdsCount.standing Timer2.con, State.heldAnchor]
    push_cast
    exact hcount
  rw [t2Count, if_pos hrun, habs]
  simp

theorem T2Woken.count {x : T2Id} {s t : State} (h : T2Woken x s t) (hrun : (s.tm x).run = false) (hnow : t.now = s.now) :
    t2Count t x = t2Count s x := by
  by_cases hcond : t2RunCond s x = true
  · exact ((h.resumed hcond).count hnow).trans (if_neg (ne_true_of_eq_false hrun)).symm
  · simp only [t2Count, t2Abs, State.cycle, h.stands hcond, hnow]

/-- The instances that run, by their triggers. -/
def t2Movers (s : State) : List TrigId :=
  movers (t2RunCond s .t2) (.tBrk .t2) ++ movers (t2RunCond s .t4) (.tBrk .t4) ++ movers (t2RunCond s .t6) (.tBrk .t6)

theorem mem_t2Movers {s : State} {u : TrigId} : u ∈ t2Movers s ↔ ∃ x, t2RunCond s x = true ∧ u = .tBrk x := by
  simp only [t2Movers, List.mem_append, mem_movers]
  constructor
  · rintro ((h | h) | h) <;> exact ⟨_, h⟩
  · rintro ⟨x, h⟩
    cases x <;> simp [h]

/-- From `u` on the running instances alone have moved, and every instance is still as WAKE leaves it. -/
structure Reratioed (s u t : State) : Prop where
  moved : Moved (t2Movers s) u t
  woken : ∀ x, T2Woken x s t

theorem moved_t2Reratio (x : T2Id) (s : State) : Moved [.tBrk x] s (t2Reratio x s) := by
  unfold t2Reratio
  dsimp only
  split
  · exact moved_t2Update x _ s
  · exact .refl _ s

theorem moved_t2ReratioIfStale (x : T2Id) (s : State) : Moved [.tBrk x] s (t2ReratioIfStale x s) := by
  unfold t2ReratioIfStale
  split
  · exact .refl _ s
  · exact moved_t2Reratio x s

/-- The instance counts in the ratio of the present frequencies. -/
def FreshRatio (s t : State) (x : T2Id) : Prop := t2RunCond s x = true → (t.tm x).ratio = t2RatioNow t x

theorem FreshRatio.moved {s t u : State} {x y : T2Id} (h : FreshRatio s t x) (hm : Moved [.tBrk y] t u) (hne : x ≠ y) :
    FreshRatio s u x := by
  have hts : TrigId.tBrk x ∉ [TrigId.tBrk y] := by simpa using hne
  intro hcond
  rw [hm.tm x hts, hm.t2RatioNow hts (by simp)]
  exact h hcond

section
variable {s u : State} {ts : List TrigId} (hstill : ∀ x, (s.tm x).run = false) (hm : Moved ts s u)
include hstill hm

/-- A new ratio starts a running instance on the internal RC once more from its held count (R242). -/
theorem Reratioed.t2Reratio {t : State} (h : Reratioed s u t) (x : T2Id) : Reratioed s u (t2Reratio x t) ∧
    (t2RunCond s x = true → t2Clk s.cfg (s.tm x).clkcon = .intRc →
      ((t2Reratio x t).tm x).ratio = t2RatioNow (t2Reratio x t) x) := by
  have hmt := hm.append h.moved
  by_cases hcond : t2RunCond s x = true
  · have hx := (h.woken x).resumed hcond
    have hrun : (t.tm x).run = true := by rw [hx.timer]
    have hclk : t2Clk t.cfg (t.tm x).clkcon = t2Clk s.cfg (s.tm x).clkcon := by
      rw [hmt.cfg, field_of_t2_standing hx.holdsCount.standing Timer2.clkcon]
    by_cases hint : t2Clk s.cfg (s.tm x).clkcon = .intRc
    · have hstep : Machine.t2Reratio x t = t2Update x (s.tm x).held t := by
        rw [Machine.t2Reratio, hrun, hclk, hint, hx.count hmt.now]
        rfl
      obtain ⟨hresumed, hratio⟩ := t2Resumed_update hmt hx.holdsCount hcond
      have hmoved := moved_t2Update x (s.tm x).held t
      rw [hstep]
      refine ⟨⟨h.moved.trans (hmoved.mono ?_), fun y => ?_⟩, fun _ _ => hratio⟩
      · intro v hv
        exact mem_t2Movers.2 ⟨x, hcond, List.mem_singleton.1 hv⟩
      · by_cases hy : y = x
        · subst hy
          exact hresumed.woken hcond
        · exact (h.woken y).moved hmoved (by simpa using hy)
    · rw [t2Reratio_other fun _ => hclk ▸ hint]
      exact ⟨h, fun _ h => absurd h hint⟩
  · have hrun : (t.tm x).run = false := by rw [(h.woken x).stands hcond, hstill]
    rw [t2Reratio_other fun h => absurd (hrun.symm.trans h) Bool.false_ne_true]
    exact ⟨h, fun h => absurd h hcond⟩

theorem Reratioed.all {t : State} (h : Reratioed s u t) : Reratioed s u (t2ReratioAll t) :=
  have h2 := (h.t2Reratio hstill hm .t2).1
  have h4 := (h2.t2Reratio hstill hm .t4).1
  (h4.t2Reratio hstill hm .t6).1

theorem Reratioed.ifStale {t : State} (h : Reratioed s u t) (x : T2Id) : Reratioed s u (t2ReratioIfStale x t) := by
  unfold t2ReratioIfStale
  split
  · exact h
  · exact (h.t2Reratio hstill hm x).1

theorem Reratioed.fresh {t : State} (h : Reratioed s u t) (x : T2Id) : FreshRatio s (t2ReratioIfStale x t) x := by
  intro hcond
  have hx := (h.woken x).resumed hcond
  unfold t2ReratioIfStale
  split
  next hfresh => exact hfresh.symm
  next hstale =>
    refine (h.t2Reratio hstill hm x).2 hcond (by_contra fun hclk => hstale ?_)
    have hclkcon := field_of_t2_standing hx.holdsCount.standing Timer2.clkcon
    exact (t2RatioNow_fixed (hm.append h.moved).cfg hclkcon hclk).trans (hx.fixed hclk).symm

/-- In the end every running instance counts in the present ratio (R242). -/
theorem Reratioed.stale {t : State} (h : Reratioed s u t) :
    Reratioed s u (t2ReratioStale t) ∧ ∀ x, FreshRatio s (t2ReratioStale t) x := by
  have h2 := h.ifStale hstill hm .t2
  have h4 := h2.ifStale hstill hm .t4
  have f2 := (h.fresh hstill hm .t2).moved (moved_t2ReratioIfStale .t4 _) nofun
  refine ⟨h4.ifStale hstill hm .t6, fun x => ?_⟩
  cases x with
  | t2 => exact f2.moved (moved_t2ReratioIfStale .t6 _) nofun
  | t4 => exact (h2.fresh hstill hm .t4).moved (moved_t2ReratioIfStale .t6 _) nofun
  | t6 => exact h4.fresh hstill hm .t6

end

end Sys2Proof.Machine
end

section
/-!
Proof of the statement of 44_oscillator.md and 60_exceptions.md about WAKE (R340, R351, R456): the counters start one after
another, then the oscillator is derived anew and its frequency told, which restarts the instances on the internal RC.
-/

namespace Sys2Proof.Machine

open Sys2Proof

/-! ### The counters -/

/-- The triggers of the counters whose run condition holds. -/
def counterMovers (s : State) : List TrigId :=
  movers (t0RunCond s) .t0Ovf ++ movers (t1RunCond s) .t1Brk ++ t2Movers s ++ movers (ncoRun s) .ncoOvf

/-- The counters of the awake block `s` as `t` has them after WAKE. -/
structure CountersWoken (s t : State) : Prop where
  t0 : T0Woken s t
  t1 : T1Woken s t
  t2 : ∀ x, T2Woken x s t
  nco : NcoWoken s t

theorem CountersWoken.moved {s t u : State} (h : CountersWoken s t) (hm : Moved oscEvents t u) : CountersWoken s u :=
  ⟨h.t0.moved hm (by decide), h.t1.moved hm (by decide), fun x => (h.t2 x).moved hm (by cases x <;> decide),
    h.nco.moved hm (by decide)⟩

/-- The counters that run start, in the order of R456. -/
def wakeCounters (s : State) : State := wakeNco (wakeT2 .t6 (wakeT2 .t4 (wakeT2 .t2 (wakeT1 (wakeT0 s)))))

/-- Each counter starts by itself, and the starts of the others leave it. -/
theorem countersWoken (s : State) :
    Moved (counterMovers s) s (wakeCounters s) ∧ CountersWoken s (wakeCounters s) := by
  have m0 := moved_wakeT0 s
  have m1 := moved_wakeT1 (wakeT0 s)
  rw [m0.t1RunCond (by simp [mem_movers])] at m1
  have m01 := m0.append m1
  have m2 := moved_wakeT2 .t2 (wakeT1 (wakeT0 s))
  rw [m01.t2RunCond (by simp [mem_movers])] at m2
  have m012 := m01.append m2
  have m4 := moved_wakeT2 .t4 (wakeT2 .t2 (wakeT1 (wakeT0 s)))
  rw [m012.t2RunCond (by simp [mem_movers])] at m4
  have m0124 := m012.append m4
  have m6 := moved_wakeT2 .t6 (wakeT2 .t4 (wakeT2 .t2 (wakeT1 (wakeT0 s))))
  rw [m0124.t2RunCond (by simp [mem_movers])] at m6
  have mtimers := m0124.append m6
  have mn := moved_wakeNco (wakeT2 .t6 (wakeT2 .t4 (wakeT2 .t2 (wakeT1 (wakeT0 s)))))
  rw [mtimers.ncoRun (by simp [mem_movers])] at mn
  have m6n := m6.append mn
  have m46n := m4.append m6n
  have m246n := m2.append m46n
  refine ⟨(mtimers.append mn).mono (by simp [counterMovers, t2Movers]), ?_, ?_, fun x => ?_, ?_⟩
  · exact (t0Woken_wakeT0 s).moved (m1.append m246n) (by simp [mem_movers])
  · exact ((t1Woken_wakeT1 _).after m0 (by simp [mem_movers])).moved m246n (by simp [mem_movers])
  · cases x with
    | t2 => exact (t2Woken_wakeT2 m01 (by simp [mem_movers])).moved m46n (by simp [mem_movers])
    | t4 => exact (t2Woken_wakeT2 m012 (by simp [mem_movers])).moved m6n (by simp [mem_movers])
    | t6 => exact (t2Woken_wakeT2 m0124 (by simp [mem_movers])).moved mn (by simp [mem_movers])
  · exact (ncoWoken_wakeNco _).after mtimers (by simp [mem_movers])

/-! ### The oscillator -/

/-- The block with both events of the oscillator gone, unsettled, and `f_int` recomputed (R340). -/
def oscCleared (s : State) : State := cancel .oscOst (cancel .oscSettle { s with
  osc := { s.osc with settled := false, fInt := oscIntFreq s.cfg s.osc.con s.osc.tune } })

/-- The derived oscillator, before its frequency is published (R340). -/
def oscDerived (s : State) : State :=
  match oscSrc s.cfg s.osc.con with
  | none => onInternal (oscCleared s)
  | some x => warmingUp x false (oscCleared s)

/-- The frequency of the derived oscillator (R340). -/
def derivedFreq (s : State) : Rat :=
  match oscSrc s.cfg s.osc.con with
  | none => oscIntFreq s.cfg s.osc.con s.osc.tune
  | some x => if s.cfg.twoSpeed then oscIntFreq s.cfg s.osc.con s.osc.tune else extFreq s.cfg x

theorem oscDerive_eq (s : State) :
    oscDerive signal s = t2ReratioStale (republish signal (derivedFreq s) (oscDerived s)) := by
  simp only [oscDerive, oscDerived, derivedFreq, updateFInt, oscCleared, cancel]
  cases oscSrc s.cfg s.osc.con with
  | none =>
    simp only
    rw [startInternal_eq, onInternal, startSettle_eq, onInternal, startSettle_eq]
  | some x =>
    simp only
    rw [startOst_eq]
    rfl

/-- What the derivation leaves before the frequency is told (R340). -/
structure OscDerived (s t : State) : Prop where
  moved : Moved oscEvents s t
  osc : t.osc = { s.osc with
    state := if oscSrc s.cfg s.osc.con = none then .intRc else .ost, target := oscSrc s.cfg s.osc.con
    settled := false, fInt := oscIntFreq s.cfg s.osc.con s.osc.tune }
  out : t.out = s.out
  warmUp : if oscSrc s.cfg s.osc.con = none then t.pending .oscOst = none
    else ∃ ins, t.pending .oscOst = some (s.now.toNat + s.cfg.ostCycles, ins)
  settle : if oscSrc s.cfg s.osc.con = none ∨ s.cfg.twoSpeed = true then
      ∃ ins, t.pending .oscSettle = some (s.now.toNat + s.cfg.settleCycles, ins)
    else t.pending .oscSettle = none

theorem moved_of_oscEvents {s t : State} (hevents : EventsStand oscEvents s t)
    (hframe : t = { s with osc := t.osc, queue := t.queue, seq := t.seq }) : Moved oscEvents s t := by
  rw [hframe] at hevents ⊢
  exact ⟨hevents, rfl, fun _ => rfl, fun _ => rfl, fun _ _ => rfl, fun _ => rfl, fun h => absurd oscOst_mem h,
    fun _ => rfl⟩

theorem moved_oscCleared (s : State) : Moved oscEvents s (oscCleared s) :=
  ((moved_osc s { s.osc with settled := false, fInt := oscIntFreq s.cfg s.osc.con s.osc.tune } s.out).trans
    (moved_cancel oscSettle_mem _)).trans (moved_cancel oscOst_mem _)

theorem moved_onInternal (s : State) : Moved oscEvents s (onInternal s) := by
  have hstarted := moved_osc s { s.osc with state := .intRc, target := none } s.out
  refine hstarted.trans (moved_of_oscEvents (eventsStand_startSettle _) ?_)
  rw [onInternal, startSettle_eq]

theorem oscDerived_spec (s : State) : OscDerived s (oscDerived s) := by
  have hcleared := moved_oscCleared s
  unfold oscDerived
  split
  next hsrc =>
    refine ⟨hcleared.trans (moved_onInternal _), ?_, ?_, ?_, ?_⟩
    · rw [onInternal, startSettle_eq, hsrc]
      rfl
    · rw [onInternal, startSettle_eq]
      rfl
    · rw [if_pos hsrc]
      refine (pending_reschedule_other (t := .oscSettle) (u := .oscOst) _ _ nofun).trans ?_
      exact (pending_of_eq (s := oscCleared s) rfl _).trans (pending_cancel_same _ _)
    · rw [if_pos (.inl hsrc)]
      exact ⟨_, pending_reschedule_same _ _ _⟩
  next x hsrc =>
    obtain ⟨hevents, hframe, hosc, hwarmUp, hsettle⟩ := warmingUp_spec x false (oscCleared s)
    refine ⟨hcleared.trans (moved_of_oscEvents hevents hframe), ?_, ?_, ?_, ?_⟩
    · rw [hosc, hsrc]
      rfl
    · rw [hframe]
      rfl
    · rw [if_neg (by simp [hsrc])]
      exact ⟨_, hwarmUp⟩
    · have htwo : (oscCleared s).cfg.twoSpeed = s.cfg.twoSpeed := rfl
      rw [hsettle, htwo, hsrc]
      cases s.cfg.twoSpeed with
      | false => simp
      | true => exact ⟨_, rfl⟩

/-! ### WAKE -/

/-- What WAKE leaves of the block `s`, awake and with its counters still stopped (R340, R456). -/
structure Awoken (s t : State) : Prop extends CountersWoken s t where
  moved : Moved (counterMovers s ++ oscEvents) s t
  fresh : ∀ x, FreshRatio s t x
  osc : t.osc = { s.osc with
    state := if oscSrc s.cfg s.osc.con = none then .intRc else .ost, target := oscSrc s.cfg s.osc.con
    settled := false, fInt := oscIntFreq s.cfg s.osc.con s.osc.tune, fEff := derivedFreq s }
  out : t.out = s.out ++ s.freqRecords (derivedFreq s)
  warmUp : if oscSrc s.cfg s.osc.con = none then t.pending .oscOst = none
    else ∃ ins, t.pending .oscOst = some (s.now.toNat + s.cfg.ostCycles, ins)
  settle : if oscSrc s.cfg s.osc.con = none ∨ s.cfg.twoSpeed = true then
      ∃ ins, t.pending .oscSettle = some (s.now.toNat + s.cfg.settleCycles, ins)
    else t.pending .oscSettle = none

theorem t2Movers_subset (s : State) : t2Movers s ⊆ counterMovers s := by
  intro u hu
  simp [counterMovers, hu]

/-- The derivation after the counters have started: the frequency told, the instances on the internal RC start once more
from the same counts (R242, R340, R347). -/
theorem awoken_oscDerive {s u : State} (hstill : ∀ x, (s.tm x).run = false) (hr : s.hostsOnly .freq)
    (hd : s.busDepth < s.cfg.busDepthMax) (hm : Moved (counterMovers s) s u) (hu : CountersWoken s u) :
    Awoken s (oscDerive signal u) := by
  have hosc : u.osc = s.osc := hm.osc (by simp [counterMovers, mem_movers, mem_t2Movers])
  have hout : u.out = s.out := hm.out (by simp [counterMovers, mem_movers, mem_t2Movers])
  have hfreq : derivedFreq u = derivedFreq s := by rw [derivedFreq, derivedFreq, hosc, hm.cfg]
  have hsrc : oscSrc u.cfg u.osc.con = oscSrc s.cfg s.osc.con := by rw [hosc, hm.cfg]
  obtain ⟨hmoved, hderived, hquiet, hwarmUp, hsettle⟩ := oscDerived_spec u
  rw [hsrc, hm.cfg, hm.now] at hwarmUp hsettle
  rw [hsrc, hosc, hm.cfg] at hderived
  rw [hout] at hquiet
  rw [oscDerive_eq, hfreq]
  generalize oscDerived u = v at *
  have hv := hm.append hmoved
  have hrecords : v.freqRecords (derivedFreq s) = s.freqRecords (derivedFreq s) := by
    rw [State.freqRecords, State.freqRecords, State.heard, State.heard, hv.now, hv.subsOf, hderived]
  have htold := hmoved.trans (moved_osc v { v.osc with fEff := derivedFreq s } (v.out ++ v.freqRecords (derivedFreq s)))
  have hw : CountersWoken s (freqTold (derivedFreq s) v) := hu.moved htold
  have hsw : Moved _ s (freqTold (derivedFreq s) v) := hm.append htold
  have hstart : Reratioed s (freqTold (derivedFreq s) v) (freqTold (derivedFreq s) v) := ⟨.refl _ _, hw.t2⟩
  have hrepublished : Reratioed s (freqTold (derivedFreq s) v) (republish signal (derivedFreq s) v) := by
    rw [republish_hosts (by rw [State.hostsOnly, hv.subsOf]; exact hr) (by rw [hv.busDepth, hv.cfg]; exact hd)]
    split
    · exact hstart
    · exact hstart.all hstill hsw
  obtain ⟨⟨hreratioed, hwoken⟩, hfresh⟩ := hrepublished.stale hstill hsw
  have hsub : t2Movers s ⊆ counterMovers s ++ oscEvents := List.subset_append_of_subset_left _ (t2Movers_subset s)
  refine ⟨⟨hw.t0.moved hreratioed (by simp [mem_t2Movers]), hw.t1.moved hreratioed (by simp [mem_t2Movers]), hwoken,
    hw.nco.moved hreratioed (by simp [mem_t2Movers])⟩, hsw.trans (hreratioed.mono hsub), hfresh, ?osc, ?out, ?warmUp,
    ?settle⟩
  case osc =>
    rw [hreratioed.osc (by simp [mem_t2Movers]), freqTold, hderived]
  case out =>
    rw [hreratioed.out (by simp [mem_t2Movers]), freqTold, hrecords, hquiet]
  case warmUp =>
    rw [hreratioed.pending _ (by simp [mem_t2Movers])]
    exact hwarmUp
  case settle =>
    rw [hreratioed.pending _ (by simp [mem_t2Movers])]
    exact hsettle

/-- WAKE in a sleeping block (R340, R456). -/
theorem awoken_wakeUp {s : State} (hstill : ∀ x, (s.tm x).run = false) (hr : s.hostsOnly .freq)
    (hd : s.busDepth < s.cfg.busDepthMax) : Awoken { s with sleeping := false } (wakeUp s) :=
  have ⟨hmoved, hwoken⟩ := countersWoken { s with sleeping := false }
  awoken_oscDerive hstill hr hd hmoved hwoken

/-- A counter that was started runs. -/
theorem CountersWoken.started_runs {s t : State} (h : CountersWoken s t) (hsleeping : t.sleeping = s.sleeping) :
    counterMovers s ⊆ t.runningEvents := by
  obtain ⟨h0, h1, h2, hn⟩ := h
  unfold T0Woken at h0
  unfold T1Woken at h1
  unfold NcoWoken at hn
  intro u hu
  simp only [counterMovers, List.mem_append, mem_movers, mem_t2Movers] at hu
  simp only [State.runningEvents, List.mem_append]
  rcases hu with ((⟨hc, rfl⟩ | ⟨hc, rfl⟩) | ⟨x, hc, rfl⟩) | ⟨hc, rfl⟩
  · rw [if_pos hc] at h0
    simp [h0.1]
  · simp only [if_pos hc] at h1
    simp [h1.1]
  · have hrun : (t.tm x).run = true := by rw [((h2 x).resumed hc).timer]
    refine .inl (.inr (List.mem_map.2 ⟨x, List.mem_filter.2 ⟨?_, hrun⟩, rfl⟩))
    cases x <;> simp
  · simp only [if_pos hc] at hn
    have hrun : ncoRun t = true := by
      rw [← hc, ncoRun, hn.1, hsleeping]
      rfl
    simp [hrun]

/-- In a sleeping block no counter runs (R455). -/
theorem Running.still {s : State} (h : s.Running) (hsleeping : s.sleeping = true) :
    s.t0.run = false ∧ s.t1.run = false ∧ ∀ x, (s.tm x).run = false := by
  obtain ⟨h0, h1, h2⟩ := h
  exact ⟨h0.trans (by simp [t0RunCond, hsleeping]), h1.trans (by simp [t1RunCond, hsleeping]),
    fun x => (h2 x).trans (by simp [t2RunCond, hsleeping])⟩

/-- Settles O58: awake already by the model's own test; else `awoken_wakeUp`, with every count read as it was held. -/
theorem wakeResumes : Obligations.WakeResumes := by
  intro s
  refine ⟨fun hawake => ?awake, fun hsleeping hrunning hr hd => ?asleep⟩
  case awake => exact if_neg (ne_true_of_eq_false hawake)
  case asleep =>
    intro a now src f g v1 k1 d1 kn clocks
    obtain ⟨hstill0, hstill1, hstill2⟩ := Running.still hrunning hsleeping
    have h := awoken_wakeUp hstill2 hr hd
    have hrun := wakeUp_running hsleeping hrunning
    have hexec : exec .wake s = .next (wakeUp s) := if_pos hsleeping
    generalize wakeUp s = t at h hrun hexec
    have hnow : t.now = a.now := h.moved.now
    have hg : derivedFreq a = g := by
      show (match src with | none => f | some x => if s.cfg.twoSpeed then f else extFreq s.cfg x) = g
      cases hsrc : src with
      | none => simp [g, hsrc]
      | some x => cases x <;> simp [g, hsrc, extFreq]
    refine ⟨t, hexec, hrun, ?reads, ?events, ?frame, h.t0, h.t1, fun x => ?timer, h.nco, h.warmUp, h.settle⟩
    case reads =>
      have hc0 : t0Count t = t0Count s := h.t0.count hstill0 hnow
      have hc1 : t1Count t = t1Count s := h.t1.count hstill1 hnow
      have hc2 (x : T2Id) : t2Count t x = t2Count s x := (h.t2 x).count (hstill2 x) hnow
      have hacc : accNow t = accNow s := by
        have hheld : accNow s = s.nco.acc := if_neg (by simp [ncoRun, hsleeping])
        exact (h.nco.accumulator h.moved.sleeping hnow).trans hheld.symm
      intro r hr
      simp only [List.mem_cons, List.not_mem_nil, or_false] at hr
      rcases hr with rfl | rfl | rfl | rfl | rfl | rfl | rfl | rfl | rfl <;>
        simp only [readReg, readDerived, hc0, hc1, hc2, hacc]
    case events =>
      have hsub := List.append_subset.2 ⟨List.subset_append_of_subset_left oscEvents (h.started_runs h.moved.sleeping),
        List.subset_append_right _ _⟩
      exact (h.moved.toEventsStand.mono hsub).events
    case frame =>
      refine h.moved.frame.trans ?_
      rw [h.osc, h.out, hg]
      rfl
    case timer =>
      split
      next hcond =>
        obtain ⟨htimer, hpending, -⟩ := (h.t2 x).resumed hcond
        rw [h.fresh x hcond] at htimer hpending
        exact ⟨htimer, hpending⟩
      next hcond => exact (h.t2 x).stands hcond

end Sys2Proof.Machine
end

section
/-!
Laws of a logic cell's inputs (45_clc.md R370, R371): what the recomputation of its subscriptions leaves, and the
registers' PUT up to the evaluation; with them the statement about the subscriptions.
-/

namespace Sys2Proof.Machine

open Sys2Proof

theorem setClc_setClc (s : State) (n : ClcId) (c d : Clc) : (s.setClc n c).setClc n d = s.setClc n d := by
  cases n <;> rfl

theorem setClc_self (s : State) (n : ClcId) : s.setClc n (s.clc n) = s := by cases n <;> rfl

/-- Rewiring leaves the cell. -/
theorem setClc_wiring_self (s : State) (n : ClcId) (pins : Vector Pin 32) (subs : Vector (List RecvId) 11)
    (f : FaultSet) : { s with pins := pins, subs := subs, faults := f }.setClc n (s.clc n) =
      { s with pins := pins, subs := subs, faults := f } := by cases n <;> rfl

/-- The faults and the cell are apart. -/
theorem setClc_faults_with (s : State) (n : ClcId) (pins : Vector Pin 32) (subs : Vector (List RecvId) 11)
    (f : FaultSet) (l : Vector Level 4) :
    { { s with pins := pins, subs := subs }.setClc n
      { { s with pins := pins, subs := subs }.clc n with inp := l } with faults := f } =
      { s with pins := pins, subs := subs, faults := f }.setClc n { s.clc n with inp := l } := by cases n <;> rfl

/-! ### The source of an input -/

/-- In use, in the words of R371. -/
theorem clcInUse_iff (c : Clc) (y : Fin 4) : clcInUse c y = true ↔
    bit c.con 7 = true ∧ ∃ k : Fin 4, bit c.gls[k] (2 * y) = true ∨ bit c.gls[k] (2 * y + 1) = true := by
  simp [clcInUse, clcEn, glsTrue, glsComp, or_comm]

/-- The source of an input, in the words of R371. -/
theorem clcWant_eq (cfg : Cfg) (n : ClcId) (c : Clc) (y : Fin 4) : clcWant cfg n c y =
    if bit c.con 7 = true ∧ ∃ k : Fin 4, bit c.gls[k] (2 * y) = true ∨ bit c.gls[k] (2 * y + 1) = true then
      some ((cfg.clcInputTable.getD n.idx []).getD (c.sel[y].toNat % 64) .low)
    else none := by
  have hsource : clcSource cfg n c y = (cfg.clcInputTable.getD n.idx []).getD (c.sel[y].toNat % 64) .low := by
    simp [clcSource, field]
  rw [clcWant, hsource]
  exact if_congr (clcInUse_iff c y) rfl rfl

/-- The source of an input is read off the registers. -/
theorem clcWant_of_config {c d : Clc} (h : c.config = d.config) (cfg : Cfg) (n : ClcId) (y : Fin 4) :
    clcWant cfg n c y = clcWant cfg n d y := (congrArg (clcWant cfg n · y) h :)

/-! ### One input resubscribed -/

/-- The level of an input after a resubscription from `old` to `want`: a source newly held gives its own (R371). -/
def inputAfter (s : State) (old want : Option SigDesc) (l : Level) : Level :=
  match want with
  | none => l
  | some d => if some d = old then l else gainedLevel s d

theorem inputAfter_of_lvl {s t : State} (h : ∀ p : PinIx, t.pins[p].lvl = s.pins[p].lvl) (old want : Option SigDesc)
    (l : Level) : inputAfter t old want l = inputAfter s old want l := by
  cases want with
  | none => rfl
  | some d => simp only [inputAfter, gainedLevel_of_lvl h d]

/-- The faults after it: a `Refused` source that stands raises nothing (R371). -/
def faultsAfter (old want : Option SigDesc) (f : FaultSet) : FaultSet := if want = old then f else refusedFaults want f

theorem unmodelled_faultsAfter (old want : Option SigDesc) (f : FaultSet) :
    (faultsAfter old want f).unmodelled = true ↔
      f.unmodelled = true ∨ (want = some .refused ∧ old ≠ some .refused) := by
  unfold faultsAfter refusedFaults
  by_cases hsame : want = old
  · subst hsame
    simp
  · by_cases hr : want = some .refused
    · subst hr
      simp [hsame, Ne.symm hsame, FaultSet.add]
    · simp [hsame, hr]

/-- The resubscription of one input as an update of the wiring, the faults and the input's level. -/
theorem clcResubscribeInput_eq {n : ClcId} {old : Clc} {s : State} {y : Fin 4} {was want : Option SigDesc}
    (hwas : clcWant s.cfg n old y = was) (hwant : clcWant s.cfg n (s.clc n) y = want) :
    clcResubscribeInput n old s y = { s with
        pins := heldPins (.clcIn n y) want s.pins
        subs := heldSubs (.clcIn n y) want s.subs
        faults := faultsAfter was want s.faults }.setClc n
      { s.clc n with inp := (s.clc n).inp.set y (inputAfter s was want (s.clc n).inp[y]) } := by
  have hkept : (s.clc n).inp.set y (s.clc n).inp[y] = (s.clc n).inp := Vector.set_getElem_self y.isLt
  have hgained (d : SigDesc) : gainedLevel { s with
      pins := heldPins (.clcIn n y) want s.pins, subs := heldSubs (.clcIn n y) want s.subs } d = gainedLevel s d :=
    gainedLevel_of_lvl (fun p => by simp [heldPins]) d
  unfold clcResubscribeInput
  rw [hwas, hwant]
  dsimp only
  rw [resubscribe_eq]
  generalize heldPins (.clcIn n y) want s.pins = pins at hgained
  generalize heldSubs (.clcIn n y) want s.subs = subs at hgained
  have hself (f : FaultSet) := (setClc_wiring_self s n pins subs f).symm
  cases want with
  | none =>
    rw [inputAfter, hkept, faultsAfter]
    split <;> exact hself _
  | some d =>
    rw [inputAfter, faultsAfter]
    by_cases hsame : some d = was
    · rw [if_pos hsame, if_pos hsame, if_pos hsame, hkept]
      exact hself _
    · rw [if_neg hsame, if_neg hsame, if_neg hsame]
      dsimp only
      rw [hgained, raiseIfRefused_eq, setClc_faults]
      exact setClc_faults_with s n pins subs _ _

/-! ### Several inputs resubscribed -/

/-- What the resubscription of the inputs in `l` leaves, `old` being the cell before the write: each is held exactly
where its source is, with its level and its fault, and nothing else moves (R371, R373). -/
structure Rewired (n : ClcId) (old : Clc) (l : List (Fin 4)) (s t : State) : Prop where
  frame : t = { s with pins := t.pins, subs := t.subs, faults := t.faults }.setClc n
    { s.clc n with inp := (t.clc n).inp }
  modules : ∀ p : PinIx, t.pins[p] = { s.pins[p] with sinks := t.pins[p].sinks }
  input : ∀ y : Fin 4, (t.clc n).inp[y] =
    if y ∈ l then inputAfter s (clcWant s.cfg n old y) (clcWant s.cfg n (s.clc n) y) (s.clc n).inp[y]
    else (s.clc n).inp[y]
  sink : ∀ y ∈ l, ∀ p : PinIx, .clcIn n y ∈ t.pins[p].sinks ↔ clcWant s.cfg n (s.clc n) y = some (.pin p)
  receiver : ∀ y ∈ l, ∀ k, .clcIn n y ∈ t.subsOf k ↔ ∃ sub, clcWant s.cfg n (s.clc n) y = some (.bus k sub)
  otherSinks : ∀ (p : PinIx) (j : SinkId), (∀ y ∈ l, j ≠ .clcIn n y) → (j ∈ t.pins[p].sinks ↔ j ∈ s.pins[p].sinks)
  otherReceivers : ∀ (k : ChanKind) (j : RecvId), (∀ y ∈ l, j ≠ .clcIn n y) → (j ∈ t.subsOf k ↔ j ∈ s.subsOf k)
  hosts : ∀ k, s.hostsOnly k → (∀ y ∈ l, ∀ sub, clcWant s.cfg n (s.clc n) y ≠ some (.bus k sub)) →
    t.subsOf k = s.subsOf k
  unmodelled : t.faults.unmodelled = true ↔ s.faults.unmodelled = true ∨
    ∃ y ∈ l, clcWant s.cfg n (s.clc n) y = some .refused ∧ clcWant s.cfg n old y ≠ some .refused

/-- A list of hosts does not hold the receiver of an input: releasing it changes nothing. -/
theorem holdOnce_false_of_hosts {r : RecvId} (hr : r.isHost = false) {l : List RecvId} (h : ∀ j ∈ l, j.isHost = true) :
    holdOnce false r l = l := by
  rw [holdOnce_false, List.filter_eq_self]
  intro j hj
  refine decide_eq_true fun e => ?_
  rw [← e, h j hj] at hr
  cases hr

theorem rewired_nil (n : ClcId) (old : Clc) (s : State) : Rewired n old [] s s where
  frame := (setClc_self s n).symm
  modules _ := rfl
  input _ := rfl
  sink _ h := absurd h List.not_mem_nil
  receiver _ h := absurd h List.not_mem_nil
  otherSinks _ _ _ := Iff.rfl
  otherReceivers _ _ _ := Iff.rfl
  hosts _ _ _ := rfl
  unmodelled := by simp

theorem rewired_input (n : ClcId) (old : Clc) (s : State) (y : Fin 4) :
    Rewired n old [y] s (clcResubscribeInput n old s y) := by
  have heq := clcResubscribeInput_eq (n := n) (old := old) (s := s) (y := y) rfl rfl
  generalize clcResubscribeInput n old s y = t at heq
  have hpins : t.pins = heldPins (.clcIn n y) (clcWant s.cfg n (s.clc n) y) s.pins := by rw [heq, setClc_pins]
  have hsubs : t.subs = heldSubs (.clcIn n y) (clcWant s.cfg n (s.clc n) y) s.subs := by rw [heq, setClc_subs]
  have hinp : (t.clc n).inp = (s.clc n).inp.set y (inputAfter s (clcWant s.cfg n old y) (clcWant s.cfg n (s.clc n) y)
    (s.clc n).inp[y]) := by rw [heq, setClc_clc_same]
  have hfaults : t.faults = faultsAfter (clcWant s.cfg n old y) (clcWant s.cfg n (s.clc n) y) s.faults := by
    rw [heq, setClc_faults]
  obtain ⟨hsink, hreceiver, hsinks, hreceivers⟩ := holds_of_held hpins hsubs
  refine ⟨?frame, fun p => ?modules, fun z => ?input, ?sink, ?receiver, fun p j hj => hsinks p j (hj y (by simp)),
    fun k j hj => hreceivers k j (hj y (by simp)), fun k hk hw => ?hosts, ?unmodelled⟩
  case frame =>
    rw [hpins, hsubs, hfaults, hinp]
    exact heq
  case modules => simp [hpins, heldPins]
  case input =>
    rw [hinp]
    by_cases hz : z = y
    · subst hz
      simp
    · rw [getElem_set_other _ _ (Ne.symm hz), if_neg (by simpa using hz)]
  case sink => simpa using hsink
  case receiver => simpa using hreceiver
  case hosts =>
    have hnot : wantsIndex (clcWant s.cfg n (s.clc n) y) (kindIx k) = false := by
      rw [← Bool.not_eq_true, wantsIndex_iff]
      exact fun ⟨sub, hsub⟩ => hw y (by simp) sub hsub
    have hlist : t.subsOf k =
        holdOnce (wantsIndex (clcWant s.cfg n (s.clc n) y) (kindIx k)) (.clcIn n y) (s.subsOf k) := by
      simp [State.subsOf, hsubs, heldSubs]
    rw [hlist, hnot, holdOnce_false_of_hosts rfl hk]
  case unmodelled => simp [hfaults, unmodelled_faultsAfter]

section
variable {n : ClcId} {old : Clc} {l : List (Fin 4)} {s t : State} (h : Rewired n old l s t)
include h

theorem Rewired.cfg : t.cfg = s.cfg := by rw [h.frame, setClc_cfg]

/-- The cell's own registers, its element and its output stand. -/
theorem Rewired.cell : t.clc n = { s.clc n with inp := (t.clc n).inp } :=
  (congrArg (State.clc · n) h.frame).trans (setClc_clc_same _ _ _)

theorem Rewired.want (y : Fin 4) : clcWant t.cfg n (t.clc n) y = clcWant s.cfg n (s.clc n) y := by
  rw [h.cfg, h.cell]
  rfl

theorem Rewired.was (y : Fin 4) : clcWant t.cfg n old y = clcWant s.cfg n old y := by rw [h.cfg]

end

/-- One input resubscribed and then others. -/
theorem Rewired.cons {n : ClcId} {old : Clc} {y : Fin 4} {l : List (Fin 4)} {s t u : State}
    (a : Rewired n old [y] s t) (b : Rewired n old l t u) (hy : y ∉ l) : Rewired n old (y :: l) s u := by
  have hne (z : Fin 4) (hz : z ∈ l) : z ≠ y := fun e => hy (e ▸ hz)
  refine ⟨?frame, fun p => ?modules, fun z => ?input, ?sink, ?receiver, fun p j hj => ?otherSinks,
    fun k j hj => ?otherReceivers, fun k hk hw => ?hosts, ?unmodelled⟩
  case frame =>
    refine b.frame.trans ?_
    rw [a.cell]
    refine (congrArg (fun v : State => State.setClc { v with pins := u.pins, subs := u.subs, faults := u.faults } n _)
      a.frame).trans ?_
    cases n <;> rfl
  case modules => rw [b.modules, a.modules]
  case input =>
    rw [b.input, a.want, a.cfg, inputAfter_of_lvl (s := s) (t := t) fun p => by rw [a.modules], a.input]
    by_cases hz : z ∈ l
    · simp [hz, hne z hz]
    · simp [hz]
  case sink =>
    intro z hz p
    rcases List.mem_cons.1 hz with rfl | hz
    · rw [b.otherSinks p _ fun x hx => ?_, a.sink z (by simp)]
      exact fun e => hne x hx (SinkId.clcIn.inj e).2.symm
    · rw [b.sink z hz, a.want]
  case receiver =>
    intro z hz k
    rcases List.mem_cons.1 hz with rfl | hz
    · rw [b.otherReceivers k _ fun x hx => ?_, a.receiver z (by simp)]
      exact fun e => hne x hx (RecvId.clcIn.inj e).2.symm
    · rw [b.receiver z hz, a.want]
  case otherSinks =>
    rw [b.otherSinks p j fun z hz => hj z (List.mem_cons_of_mem y hz), a.otherSinks p j (by simpa using hj y (by simp))]
  case otherReceivers =>
    rw [b.otherReceivers k j fun z hz => hj z (List.mem_cons_of_mem y hz),
      a.otherReceivers k j (by simpa using hj y (by simp))]
  case hosts =>
    have hfirst : t.subsOf k = s.subsOf k := a.hosts k hk (by simpa using hw y (by simp))
    have hk' : t.hostsOnly k := by
      unfold State.hostsOnly
      rwa [hfirst]
    rw [b.hosts k hk' fun z hz => a.want z ▸ hw z (List.mem_cons_of_mem y hz), hfirst]
  case unmodelled =>
    rw [b.unmodelled, a.unmodelled]
    simp only [a.want, a.was, List.exists_mem_cons_iff, List.not_mem_nil, false_and, exists_false, or_false, or_assoc]

theorem rewired_foldl (n : ClcId) (old : Clc) (l : List (Fin 4)) (hl : l.Nodup) (s : State) :
    Rewired n old l s (l.foldl (clcResubscribeInput n old) s) := by
  induction l generalizing s with
  | nil => exact rewired_nil n old s
  | cons y l ih =>
    obtain ⟨hy, hl⟩ := List.nodup_cons.1 hl
    exact (rewired_input n old s y).cons (ih hl _) hy

theorem rewired_clcResubscribe (n : ClcId) (old : Clc) (s : State) :
    Rewired n old (List.finRange 4) s (clcResubscribe n old s) := rewired_foldl n old _ (List.nodup_finRange 4) s

/-! ### PUT of a cell's registers -/

/-- The store of a register's byte: it moves nothing but the control bytes. -/
def StoresRegisters (store : Clc → Clc) : Prop := ∀ c, store c =
  { c with con := (store c).con, pol := (store c).pol, sel := (store c).sel, gls := (store c).gls }

theorem exec_putCell {n : ClcId} {r : Reg} (v : Byte) (s : State)
    (hr : r = .clccon n ∨ r = .clcpol n ∨ (∃ y, r = .clcsel n y) ∨ (∃ k, r = .clcgls n k)) :
    ∃ store, StoresRegisters store ∧ exec (putRow v r) s = .next (writeClc signal n store s) := by
  rcases hr with rfl | rfl | ⟨y, rfl⟩ | ⟨k, rfl⟩ <;> exact ⟨_, fun _ => rfl, exec_putRow _ v s⟩

/-- The cell with the byte in its place, its element cleared where the write disables it (R370). -/
def clcStored (store : Clc → Clc) (c : Clc) : Clc :=
  if !clcEn (store c) && clcEn c then { store c with q := false, g1Prev := false } else store c

/-- The cell stored and its inputs resubscribed, before the evaluation (R370). -/
def clcRewired (n : ClcId) (store : Clc → Clc) (s : State) : State :=
  clcResubscribe n (s.clc n) (s.setClc n (clcStored store (s.clc n)))

/-- After the resubscription a PUT drives the cell's pins at most, and evaluates the cell (R370). -/
theorem writeClc_eq (w : Wire) (n : ClcId) (store : Clc → Clc) (s : State) : writeClc w n store s =
    clcEvaluate w n (if clcDrives (store (s.clc n)) = clcDrives (s.clc n) then clcRewired n store s
      else driveControl w (.clc n) (clcRewired n store s)) := rfl

theorem signalled_writeClc (n : ClcId) (store : Clc → Clc) (s : State) :
    Signalled (clcRewired n store s) (writeClc signal n store s) := by
  rw [writeClc_eq]
  refine (sig_clcEvaluate sig_signal n _).after ?_
  split
  · exact .refl _
  · exact sig_driveWhere sig_signal _ _

theorem rewired_clcRewired (n : ClcId) (store : Clc → Clc) (s : State) :
    Rewired n (s.clc n) (List.finRange 4) (s.setClc n (clcStored store (s.clc n))) (clcRewired n store s) :=
  rewired_clcResubscribe n _ _

/-! ### What no signal moves -/

theorem Signalled.sinks {s t : State} (h : Signalled s t) (p : PinIx) : t.pins[p].sinks = s.pins[p].sinks := by
  have hmap : t.pins.map Pin.config = s.pins.map Pin.config := (congrArg State.pins h.config :)
  have hpin := congrArg (fun pins : Vector Pin 32 => pins[p].sinks) hmap
  simpa [Pin.config] using hpin

theorem Signalled.subsOf {s t : State} (h : Signalled s t) (k : ChanKind) : t.subsOf k = s.subsOf k :=
  (congrArg (fun u : State => u.subsOf k) h.config :)

theorem Signalled.cell {s t : State} (h : Signalled s t) (n : ClcId) : (t.clc n).config = (s.clc n).config := by
  cases n with
  | clc1 => exact (congrArg State.clc1 h.config :)
  | clc2 => exact (congrArg State.clc2 h.config :)
  | clc3 => exact (congrArg State.clc3 h.config :)
  | clc4 => exact (congrArg State.clc4 h.config :)

theorem Signalled.cfg {s t : State} (h : Signalled s t) : t.cfg = s.cfg := (congrArg State.cfg h.config :)

/-- Settles O55: the recomputation of the four inputs by `Rewired`; what follows it is a signal, and no signal moves a
subscription, a register or UNMODELLED. -/
theorem cellsSubscribe : Obligations.CellsSubscribe := by
  intro n r v s hr used
  have hused (c : Clc) (y : Fin 4) : used c y = clcWant s.cfg n c y := (clcWant_eq s.cfg n c y).symm
  obtain ⟨store, -, hexec⟩ := exec_putCell v s hr
  have hsig := signalled_writeClc n store s
  have hrew := rewired_clcRewired n store s
  generalize clcRewired n store s = u at hsig hrew
  generalize writeClc signal n store s = t at hsig hexec
  generalize hb : s.setClc n (clcStored store (s.clc n)) = b at hrew
  have hcfg : b.cfg = s.cfg := by rw [← hb, setClc_cfg]
  have hfaults : b.faults = s.faults := by rw [← hb, setClc_faults]
  have hwant (y : Fin 4) : clcWant s.cfg n (b.clc n) y = clcWant s.cfg n (t.clc n) y := by
    rw [clcWant_of_config (hsig.cell n), ← hcfg, ← hrew.want, hrew.cfg]
  refine ⟨t, hexec, fun p y => ?sink, fun k y => ?receiver, fun p j hj => ?sinks, fun k j hj => ?receivers, ?faults⟩
  case sink => rw [hsig.sinks, hrew.sink y (List.mem_finRange y), hcfg, hwant, hused]
  case receiver => rw [hsig.subsOf, hrew.receiver y (List.mem_finRange y), hcfg, hwant, hused]
  case sinks => rw [hsig.sinks, hrew.otherSinks p j fun y _ => hj y, ← hb, setClc_pins]
  case receivers => rw [hsig.subsOf, hrew.otherReceivers k j fun y _ => hj y, ← hb, setClc_subsOf]
  case faults =>
    have hfault : t.faults.unmodelled = u.faults.unmodelled := hsig.onlyDepth .unmodelled (by decide)
    rw [hfault, hrew.unmodelled, hfaults]
    simp only [List.mem_finRange, true_and, hcfg, hwant, hused]

end Sys2Proof.Machine
end

section
/-!
Laws of a logic cell's evaluation (45_clc.md R374 to R376): what it leaves where hosts alone hear the output, the gates
and the cell functions; with them the statement about the evaluation after a PUT of the cell's registers.
-/

namespace Sys2Proof.Machine

open Sys2Proof

/-! ### The evaluation where hosts alone hear the output -/

/-- A change of the output raises the cell's flag (R376). -/
def clcRaises (c : Clc) : Bool :=
  (clcCompute c).1 != c.out && (if (clcCompute c).1 then clcIntp c else clcIntn c)

/-- The cell after an evaluation (R376). -/
def clcEvaluated (c : Clc) : Clc := { c with
  q := (clcCompute c).2.q, g1Prev := (clcCompute c).2.g1Prev, out := (clcCompute c).1, flag := c.flag || clcRaises c }

/-- The records of the evaluation of the cell `c`: the request, then the new output as the hosts of `s` hear it
(R376). -/
def clcRecords (n : ClcId) (s : State) (c : Clc) : List OutRec :=
  (if clcRaises c then [.irq (.clc n) s.now.toNat] else []) ++
    if (clcCompute c).1 = c.out then []
    else s.heard .clcOut (n.idx + 1) (if (clcCompute c).1 then 1 else 0) s.now.toNat

/-- The evaluation moves the element alone. -/
theorem clcCompute_cell (c : Clc) :
    (clcCompute c).2 = { c with q := (clcCompute c).2.q, g1Prev := (clcCompute c).2.g1Prev } := by
  unfold clcCompute
  split <;> rfl

theorem raiseIF_setClc (b : Bool) (n : ClcId) (s : State) (c : Clc) :
    (if b then raiseIF (.clc n) (s.setClc n c) else s.setClc n c) =
      { s with out := s.out ++ if b then [OutRec.irq (.clc n) s.now.toNat] else [] }.setClc n
        { c with flag := c.flag || b } := by
  cases b with
  | false =>
    simp only [Bool.false_eq_true, if_false, List.append_nil, Bool.or_false]
  | true =>
    rw [Bool.or_true]
    cases n <;> rfl

/-- Records after the cell's, as the hosts of `s` hear them. -/
theorem setClc_out_heard (n : ClcId) (s : State) (c : Clc) (l : List OutRec) (k : ChanKind) (sub v : Nat) :
    { { s with out := s.out ++ l }.setClc n c with
      out := ({ s with out := s.out ++ l }.setClc n c).out ++
        ({ s with out := s.out ++ l }.setClc n c).heard k sub v ({ s with out := s.out ++ l }.setClc n c).now.toNat } =
      { s with out := s.out ++ (l ++ s.heard k sub v s.now.toNat) }.setClc n c := by
  rw [← List.append_assoc]
  cases n <;> rfl

/-- The edge that CLC1's output hands the NCO is no clock of it where the NCO selects another (R376, R405). -/
theorem ncoClockEdge_unselected (w : Wire) (n : ClcId) (new : Bool) {s : State}
    (h : n = .clc1 → ncoEn s.nco = true → ncoCks s.nco ≠ 2) :
    (if n == .clc1 && new then ncoClockEdge w 2 s else s) = s := by
  split
  next hc =>
    obtain ⟨hn, -⟩ : n = .clc1 ∧ new = true := by simpa using hc
    exact if_neg (by simpa using h hn)
  next => rfl

theorem State.clcAlone.of_same {n : ClcId} {s t : State} (h : s.clcAlone n)
    (hpins : ∀ p : PinIx, t.pins[p].src = s.pins[p].src ∧ t.pins[p].ctl = s.pins[p].ctl)
    (hsubs : t.subsOf .clcOut = s.subsOf .clcOut) (hdepth : t.busDepth = s.busDepth) (hcfg : t.cfg = s.cfg)
    (hnco : t.nco = s.nco) : t.clcAlone n := by
  obtain ⟨hpin, hhosts, hd, hclock⟩ := h
  refine ⟨fun p => by rw [(hpins p).1, (hpins p).2]; exact hpin p, ?_, by rwa [hdepth, hcfg], by rwa [hnco]⟩
  unfold State.hostsOnly
  rwa [hsubs]

/-- Where hosts alone hear the output, an evaluation moves the cell and the log alone. -/
theorem clcEvaluate_alone {n : ClcId} {s : State} (h : s.clcAlone n) :
    clcEvaluate signal n s = { s with out := s.out ++ clcRecords n s (s.clc n) }.setClc n (clcEvaluated (s.clc n)) := by
  obtain ⟨hpins, hhosts, hdepth, hnco⟩ := h
  have hcell := clcCompute_cell (s.clc n)
  unfold clcEvaluate clcRecords clcEvaluated clcRaises
  generalize clcCompute (s.clc n) = r at hcell
  obtain ⟨new, c⟩ := r
  dsimp only at hcell ⊢
  have hout : c.out = (s.clc n).out := by rw [hcell]
  have hintp : clcIntp c = clcIntp (s.clc n) := by rw [hcell]; rfl
  have hintn : clcIntn c = clcIntn (s.clc n) := by rw [hcell]; rfl
  have hraise : ((new && clcIntp c) || (!new && clcIntn c)) = if new then clcIntp (s.clc n) else clcIntn (s.clc n) := by
    rw [hintp, hintn]
    cases new <;> simp
  rw [hout, hraise]
  by_cases hsame : new = (s.clc n).out
  · rw [if_pos hsame, if_pos hsame, hcell, hsame]
    simp
  · have hdiff : (new != (s.clc n).out) = true := by simpa using hsame
    rw [if_neg hsame, if_neg hsame, hdiff, Bool.true_and, setClc_setClc, driveSource,
      driveWhere_none signal _ _ fun p => by simpa using (hpins p).1, raiseIF_setClc, publish_hosts]
    · rw [ncoClockEdge_unselected signal n new (by simpa using hnco), hcell]
      exact setClc_out_heard n s _ _ .clcOut (n.idx + 1) _
    · simpa using hdepth
    · unfold State.hostsOnly
      rw [setClc_subsOf]
      exact hhosts

/-! ### A PUT of the cell's registers where hosts alone hear the output -/

/-- What the store leaves of the cell, and what it clears (R370). -/
theorem clcStored_cell {store : Clc → Clc} (h : StoresRegisters store) (c : Clc) : clcStored store c = { store c with
    flag := c.flag, inp := c.inp, out := c.out
    q := !(clcEn c && !clcEn (store c)) && c.q, g1Prev := !(clcEn c && !clcEn (store c)) && c.g1Prev } := by
  unfold clcStored
  rw [h c]
  cases clcEn c <;> cases clcEn { c with
    con := (store c).con, pol := (store c).pol, sel := (store c).sel, gls := (store c).gls } <;> rfl

/-- No entry of the cell's table is the output of a cell: no source of its inputs is one. -/
theorem clcWant_ne_clcOut {cfg : Cfg} {n : ClcId}
    (h : ∀ d ∈ cfg.clcInputTable.getD n.idx [], ∀ sub, d ≠ .bus .clcOut sub) (c : Clc) (y : Fin 4)
    (sub : Nat) : clcWant cfg n c y ≠ some (.bus .clcOut sub) := by
  intro hw
  unfold clcWant at hw
  split at hw
  · have hd := Option.some.inj hw
    rw [clcSource, List.getD_eq_getElem?_getD] at hd
    cases hget : (cfg.clcInputTable.getD n.idx [])[field c.sel[y] 0 6]? with
    | none =>
      rw [hget] at hd
      exact absurd hd nofun
    | some d =>
      rw [hget] at hd
      exact h d (List.mem_of_getElem? hget) sub hd
  · cases hw

/-- The write up to the evaluation leaves the cell's output to hosts. -/
theorem Rewired.clcAlone {n : ClcId} {old : Clc} {l : List (Fin 4)} {s t : State} (h : Rewired n old l s t)
    (ha : s.clcAlone n) (hsubs : t.subsOf .clcOut = s.subsOf .clcOut) : t.clcAlone n := by
  refine ha.of_same (fun p => ?_) hsubs ?_ ?_ ?_
  · rw [h.modules]
    exact ⟨rfl, rfl⟩
  · rw [h.frame, setClc_busDepth]
  · rw [h.frame, setClc_cfg]
  · rw [h.frame, setClc_nco]

/-- The cell evaluated and the log grown after it, as an update of the block before the write. -/
theorem Rewired.logged {n : ClcId} {old c : Clc} {l : List (Fin 4)} {s t : State}
    (h : Rewired n old l (s.setClc n c) t) (o : List OutRec) (d : Clc) :
    { t with out := t.out ++ o }.setClc n d = { s with
      pins := t.pins, subs := t.subs, faults := t.faults, out := s.out ++ o }.setClc n d := by
  obtain ⟨pins, subs, faults, e, rfl⟩ : ∃ pins subs faults e, t =
      { s.setClc n c with pins := pins, subs := subs, faults := faults }.setClc n e := ⟨_, _, _, _, h.frame⟩
  cases n <;> rfl

/-- The cell that a PUT evaluates. -/
def clcWritten (n : ClcId) (store : Clc → Clc) (s : State) : Clc := (clcRewired n store s).clc n

/-- Beside the wiring of its inputs and their fault, a PUT moves the cell and the log alone. -/
theorem writeClc_alone {n : ClcId} {s : State} (store : Clc → Clc) (ha : s.clcAlone n)
    (htable : ∀ d ∈ s.cfg.clcInputTable.getD n.idx [], ∀ sub, d ≠ .bus .clcOut sub) :
    ∃ pins subs faults, writeClc signal n store s = { s with
      pins := pins, subs := subs, faults := faults, out := s.out ++ clcRecords n s (clcWritten n store s) }.setClc n
        (clcEvaluated (clcWritten n store s)) := by
  have hrew := rewired_clcRewired n store s
  rw [writeClc_eq, clcWritten]
  generalize clcRewired n store s = u at hrew
  generalize clcStored store (s.clc n) = c at hrew
  have hstored : (s.setClc n c).clcAlone n := ha.of_same (fun p => by rw [setClc_pins]; exact ⟨rfl, rfl⟩)
    (setClc_subsOf _ _ _ _) (setClc_busDepth _ _ _) (setClc_cfg _ _ _) (setClc_nco _ _ _)
  have hsubs : u.subsOf .clcOut = (s.setClc n c).subsOf .clcOut := by
    obtain ⟨-, hhosts, -⟩ := hstored
    refine hrew.hosts .clcOut hhosts fun y _ sub => clcWant_ne_clcOut ?_ _ y sub
    rwa [setClc_cfg]
  have halone : u.clcAlone n := hrew.clcAlone hstored hsubs
  have hdrive : driveControl signal (.clc n) u = u := by
    obtain ⟨hpins, -⟩ := halone
    exact driveWhere_none signal _ _ fun p => by simpa using (hpins p).2
  have hheard (sub v m : Nat) : u.heard .clcOut sub v m = s.heard .clcOut sub v m := by
    unfold State.heard
    rw [hsubs, setClc_subsOf]
  have hrecords (d : Clc) : clcRecords n u d = clcRecords n s d := by
    have hnow : u.now = s.now := by rw [hrew.frame, setClc_now]; exact setClc_now _ _ _
    simp only [clcRecords, hheard, hnow]
  refine ⟨u.pins, u.subs, u.faults, ?_⟩
  rw [hdrive, ite_self, clcEvaluate_alone halone, hrecords]
  exact hrew.logged _ _

/-! ### The gates and the cell functions -/

/-- A gate in the words of R374. -/
theorem gateValue_eq (c : Clc) (k : Fin 4) : gateValue c k =
    (decide (∃ y : Fin 4, (bit c.gls[k] (2 * y + 1) = true ∧ c.inp[y] = .H) ∨
      (bit c.gls[k] (2 * y) = true ∧ c.inp[y] ≠ .H)) != bit c.pol k) := by
  have hany : ((List.finRange 4).any fun y =>
      (glsTrue c.gls[k] y && isHigh c.inp[y]) || (glsComp c.gls[k] y && !isHigh c.inp[y])) =
      decide (∃ y : Fin 4, (bit c.gls[k] (2 * y + 1) = true ∧ c.inp[y] = .H) ∨
        (bit c.gls[k] (2 * y) = true ∧ c.inp[y] ≠ .H)) := by
    rw [Bool.eq_iff_iff, decide_eq_true_iff]
    simp [glsTrue, glsComp, isHigh]
  exact congrArg (· != bit c.pol k) hany

/-- The toggling element, one input after the other: gate 2 sets, gate 4 clears, both toggle (R375). -/
theorem cellFunction_toggle (g1 g2 g3 g4 rise q : Bool) : cellFunction 6 g1 g2 g3 g4 rise q =
    let q' := if g3 then false
      else if rise then (if g2 then (if g4 then !q else true) else if g4 then false else q) else q
    (q', q') := by
  cases g2 <;> cases g4 <;> rfl

/-- The result of the cell function (R375). -/
def clcResult (c : Clc) : Bool × Bool :=
  cellFunction (c.con.toNat % 8) (gateValue c 0) (gateValue c 1) (gateValue c 2) (gateValue c 3)
    (gateValue c 0 && !c.g1Prev) c.q

theorem clcCompute_eq (c : Clc) : clcCompute c =
    (clcEn c && ((clcResult c).1 != clcPolOut c),
      { c with
        q := if clcEn c then (clcResult c).2 else c.q
        g1Prev := if clcEn c then gateValue c 0 else c.g1Prev }) := by
  have hmode : clcMode c = c.con.toNat % 8 := by simp [clcMode, field]
  unfold clcCompute clcResult
  rw [hmode]
  cases clcEn c <;> rfl

/-- The level of an input after the recomputation of its source, in the words of R371. -/
theorem inputAfter_eq (s : State) (old want : Option SigDesc) (l : Level) : inputAfter s old want l =
    match want with
    | none => l
    | some d => if old = some d then l else
      match d with
      | .pin p => if s.pins[p].lvl = .H then .H else .L
      | _ => .L := by
  have hlow (m : Level) : lowZ m = if m = .H then .H else .L := by cases m <;> rfl
  cases want with
  | none => rfl
  | some d =>
    refine if_congr eq_comm rfl ?_
    cases d with
    | pin p => exact hlow _
    | _ => rfl

/-- What a PUT leaves of the cell `b` up to the evaluation: the output and the flag, and the element unless the write
disables the cell (R370). -/
structure WrittenFrom (b d : Clc) : Prop where
  out : d.out = b.out
  flag : d.flag = b.flag
  q : d.q = (!(bit b.con 7 && !bit d.con 7) && b.q)
  g1Prev : d.g1Prev = (!(bit b.con 7 && !bit d.con 7) && b.g1Prev)

theorem writtenFrom_clcWritten {n : ClcId} {store : Clc → Clc} (s : State) (h : StoresRegisters store) :
    WrittenFrom (s.clc n) (clcWritten n store s) := by
  have hcell : clcWritten n store s = _ := (rewired_clcRewired n store s).cell
  rw [setClc_clc_same, clcStored_cell h] at hcell
  constructor <;> rw [hcell] <;> rfl

/-- Each input takes the level that R371 gives it. -/
theorem inp_clcWritten {n : ClcId} {store : Clc → Clc} (s : State) (h : StoresRegisters store) (y : Fin 4) :
    (clcWritten n store s).inp[y] = inputAfter s (clcWant s.cfg n (s.clc n) y)
      (clcWant s.cfg n (clcWritten n store s) y) (s.clc n).inp[y] := by
  have hrew := rewired_clcRewired n store s
  have hinp : ((s.setClc n (clcStored store (s.clc n))).clc n).inp = (s.clc n).inp := by
    rw [setClc_clc_same, clcStored_cell h]
  have hinput := hrew.input y
  rw [if_pos (List.mem_finRange y), ← hrew.want, hrew.cfg, inputAfter_of_lvl (s := s) (fun p => by rw [setClc_pins]),
    setClc_cfg, hinp] at hinput
  exact hinput

/-- Settles O56: `writeClc_alone` for what moves; the cell by what the store, the inputs and the evaluation leave of
it. -/
theorem cellsEvaluate : Obligations.CellsEvaluate := by
  intro n r v s hr halone htable
  obtain ⟨store, hstore, hexec⟩ := exec_putCell v s hr
  obtain ⟨pins, subs, faults, hwrite⟩ := writeClc_alone store halone htable
  have hinp (y : Fin 4) := inp_clcWritten (n := n) s hstore y
  obtain ⟨hout, hflag, hq0, hprev⟩ := writtenFrom_clcWritten (n := n) s hstore
  refine ⟨_, hexec, ?_⟩
  rw [hwrite]
  generalize clcWritten n store s = d at *
  intro b c en off g q0 up set rst q f irq
  have hc : c = clcEvaluated d := setClc_clc_same _ _ _
  clear_value c
  subst hc
  have hg (k : Fin 4) : gateValue d k = g k := gateValue_eq d k
  have hresult : clcResult d = (f, q) := by
    have hall : clcResult d = cellFunction (d.con.toNat % 8) (g 0) (g 1) (g 2) (g 3) up q0 := by
      simp only [clcResult, hg, hq0, hprev]
      rfl
    have hcon : (clcEvaluated d).con = d.con := rfl
    have hlt : d.con.toNat % 8 < 8 := Nat.mod_lt _ (by decide)
    simp only [hall, f, q, hcon]
    clear_value g up q0
    generalize d.con.toNat % 8 = mode at hlt
    match mode, hlt with
    | 0, _ | 1, _ | 2, _ | 3, _ | 4, _ | 5, _ | 7, _ => rfl
    | 6, _ => exact cellFunction_toggle _ _ _ _ _ _
  have hcompute := clcCompute_eq d
  rw [hresult, hprev, hq0, hg] at hcompute
  have hirq : clcRaises d = irq := by
    rw [clcRaises, hout]
    rfl
  refine ⟨congrArg Prod.fst hcompute, congrArg (fun r : Bool × Clc => r.2.q) hcompute,
    congrArg (fun r : Bool × Clc => r.2.g1Prev) hcompute, fun y => ?input, ?flag, ?log, fun m hm => ?cells,
    setClc_nco _ _ _, setClc_queue _ _ _, setClc_t0 _ _ _, setClc_t1 _ _ _, setClc_ccp1 _ _ _, setClc_ccp2 _ _ _⟩
  case input => exact (hinp y).trans (inputAfter_eq _ _ _ _)
  case flag =>
    have hraised : (clcEvaluated d).flag = (d.flag || clcRaises d) := rfl
    rw [hraised, hflag, hirq]
  case log =>
    rw [setClc_out, clcRecords, hirq, hout, List.append_assoc]
    rfl
  case cells =>
    rw [setClc_clc_other _ _ _ _ hm]
    cases m <;> rfl

end Sys2Proof.Machine
end

section
/-!
Laws of the STEP on which one event is due (40_scheduler.md R136 to R138): the block in which the event's callback runs,
and when nothing is due after it.
-/

namespace Sys2Proof.Machine

open Sys2Proof

/-! ### Handles of a well-formed queue -/

theorem find?_trig_of_mem {l : List Event} (hl : l.Pairwise (fun a b => a.trig ≠ b.trig)) {e : Event} (he : e ∈ l) :
    l.find? (fun x => x.trig == e.trig) = some e := by
  induction l with
  | nil => cases he
  | cons y ys ih =>
    obtain ⟨hy, hys⟩ := List.pairwise_cons.1 hl
    rcases List.mem_cons.1 he with rfl | he
    · exact List.find?_cons_of_pos (beq_self_eq_true _)
    · rw [List.find?_cons_of_neg (by simpa using hy e he), ih hys he]

/-- In a queue that has one entry a trigger, an entry is its trigger's handle (R23). -/
theorem pending_of_mem {s : State} (hs : s.queueOk) {e : Event} (he : e ∈ s.queue) :
    s.pending e.trig = some (e.cycle, e.ins) := by
  obtain ⟨-, hdistinct, -⟩ := hs
  rw [State.pending, find?_trig_of_mem hdistinct he]
  rfl

/-- Every entry is later than `c` where the ones that stand and the handles that moved are. -/
theorem later_of_pending {c : Nat} {ts : List TrigId} {q : List Event} {t : State} (ht : t.queueOk)
    (hevents : sameEventsBut ts q t.queue) (hq : ∀ e ∈ q, c < e.cycle)
    (hmoved : ∀ u ∈ ts, ∀ p, t.pending u = some p → c < p.1) : ∀ e ∈ t.queue, c < e.cycle := by
  intro e he
  by_cases hu : e.trig ∈ ts
  · exact hmoved _ hu _ (pending_of_mem ht he)
  · exact hq e ((hevents e hu).1 he)

/-! ### The callback of the event that is due -/

/-- The block in which the callback of the event that is due next runs (R136, R138). -/
def State.firingNext (s : State) (t : TrigId) (rest : List Event) : State :=
  { s with now := s.now + 1, queue := rest, firing := some (t, s.now.toNat + 1) }

/-- A STEP is the callback of the one event that is due, where that leaves nothing due. -/
theorem step_firingNext {s u : State} {t : TrigId} {rest : List Event} (hdue : s.dueNext t rest)
    (hcall : callback t (s.firingNext t rest) = u) (hnow : u.now = s.now + 1)
    (hlater : ∀ e ∈ u.queue, s.now.toNat + 1 < e.cycle) : exec .step s = .next { u with firing := s.firing } := by
  obtain ⟨⟨-, hidle, -⟩, hn, -⟩ := id hdue
  refine step_one hdue (congrArg (fun v : State => { v with firing := s.firing }) hcall ▸ ?_) fun e he => ?_
  · rw [hidle]
    rfl
  · exact lt_of_eq_of_lt ((congrArg BitVec.toNat hnow).trans (now_succ hn)) (hlater e he)

/-- The queue keeps its structure when its first entry fires (R22). -/
theorem queueOk_firingNext {s : State} {t : TrigId} {rest : List Event} (h : s.dueNext t rest) :
    (s.firingNext t rest).queueOk := by
  obtain ⟨⟨⟨hsorted, hdistinct, hused⟩, -⟩, -, ⟨k, hq⟩, -⟩ := h
  rw [hq] at hsorted hdistinct hused
  exact ⟨hsorted.of_cons, hdistinct.of_cons, fun e he => hused e (List.mem_cons_of_mem _ he)⟩

/-- Another trigger's handle stands when the first entry fires. -/
theorem pending_firingNext {s : State} {t u : TrigId} {rest : List Event} (h : s.dueNext t rest) (hu : t ≠ u) :
    (s.firingNext t rest).pending u = s.pending u := by
  obtain ⟨-, -, ⟨k, hq⟩, -⟩ := h
  unfold State.pending
  rw [hq, List.find?_cons_of_neg (by simpa using hu)]
  rfl

theorem effectCycle_of_idle {s : State} (h : s.firing = none) : s.effectCycle = s.now.toNat := by
  rw [State.effectCycle, h]
  rfl

end Sys2Proof.Machine
end

section
/-!
Proofs of the statements of 46_nco_angular_adc.md about the ADC: PUT ADCON0 (R420, R421), the end of the acquisition
(R422, R426) and the end of a conversion (R423 to R425).
-/

namespace Sys2Proof.Machine

open Sys2Proof

/-! ### The bits GO and ADON -/

theorem exec_putAdcon0 (v : Byte) (s : State) : exec (.putAdcon0 v) s = .next (writeAdcon0 (v &&& 0x7F) s) :=
  congrArg Host.Outcome.next (regPut_masked (r := .adcon0) rfl (fun _ => rfl) v s)

theorem adGo_masked (v : Byte) : adGo (v &&& 0x7F) = bit v 1 := by simp [adGo, bit]

theorem adOn_masked (v : Byte) : adOn (v &&& 0x7F) = bit v 0 := by simp [adOn, bit]

/-- A byte with the bit set is restored by setting it again. -/
theorem setBit_clear_set {b : Byte} {i : Nat} (h : bit b i = true) : setBit (setBit b i false) i true = b := by
  ext j hj
  have hbit : bit b j = b[j] := BitVec.getLsbD_eq_getElem hj
  by_cases hij : j = i
  · subst hij
    simp [setBit, ← hbit, h]
  · have hne : (1#8 <<< i)[j] = false := by
      rw [BitVec.getElem_shiftLeft, BitVec.getElem_one, Bool.and_eq_false_iff, decide_eq_false_iff_not]
      by_cases hlt : j < i
      · exact .inl (by simp [hlt])
      · exact .inr (by omega)
    simp [setBit, hne]

/-! ### PUT ADCON0 -/

theorem adcStart_busy {s : State} (h : s.adc.state ≠ .idle) : adcStart s = s := if_pos h

/-- A start without ADON is taken back with a warning (R421). -/
theorem adcStart_off {s : State} (hidle : s.adc.state = .idle) (hoff : adOn s.adc.con0 = false) :
    adcStart s = { s with
      adc := { s.adc with con0 := s.adc.con0 &&& 0xFD }, out := s.out ++ [.warn .adcOff s.now.toNat] } := by
  rw [adcStart, if_neg (not_not.2 hidle), if_neg (ne_true_of_eq_false hoff)]
  rfl

/-- A start samples the channel and the references, and schedules the acquisition's end (R421). -/
theorem adcStart_on {s : State} (hidle : s.adc.state = .idle) (hon : adOn s.adc.con0 = true) :
    adcStart s = reschedule .adcSeq (s.effectCycle + s.adc.acq.toNat) { s with adc := { s.adc with
      con0 := setBit s.adc.con0 1 true, vin := adChannel (setGo true s), vhi := s.vrefhi, vlo := s.vreflo
      state := .acquiring } } := by
  rw [adcStart, if_neg (not_not.2 hidle), if_pos hon]
  rfl

/-- The block with the byte stored in ADCON0. -/
def adcStored (new : Byte) (s : State) : State := { s with adc := { s.adc with con0 := new } }

/-- An abort unless the write leaves GO and ADON set or the sequencer is idle (R420). -/
def adcSettled (new : Byte) (s : State) : State :=
  if (!adGo new || !adOn new) && s.adc.state != .idle then adcAbort s else s

/-- A write that sets GO starts (R420). -/
theorem writeAdcon0_go {new : Byte} {s : State} (hgo : adGo new = true) (hold : adGo s.adc.con0 = false) :
    writeAdcon0 new s = adcSettled new (adcStart (setGo false (adcStored new s))) := by
  rw [writeAdcon0, hgo, hold]
  rw [adcSettled, hgo]
  rfl

/-- A write that does not set GO starts nothing (R420). -/
theorem writeAdcon0_stored {new : Byte} {s : State} (h : adGo new = false ∨ adGo s.adc.con0 = true) :
    writeAdcon0 new s = adcSettled new (adcStored new s) := by
  have hno : (adGo new && !adGo s.adc.con0) = false := by rcases h with h | h <;> simp [h]
  rw [writeAdcon0, hno]
  rfl

theorem adcSettled_idle (new : Byte) {s : State} (h : s.adc.state = .idle) : adcSettled new s = s := by
  rw [adcSettled, h, bne_self_eq_false, Bool.and_false]
  rfl

theorem adcSettled_kept {new : Byte} (hgo : adGo new = true) (hon : adOn new = true) (s : State) :
    adcSettled new s = s := by
  rw [adcSettled, hgo, hon]
  rfl

/-- Without GO or ADON a busy sequencer aborts: ADC_SEQ is cancelled and the result stands (R420). -/
theorem adcSettled_abort {new : Byte} {s : State} (hbusy : s.adc.state ≠ .idle)
    (h : adGo new = false ∨ adOn new = false) : adcSettled new s = { s with
      adc := { s.adc with con0 := s.adc.con0 &&& 0xFD, state := .idle }
      queue := s.queue.filter (fun e => e.trig != .adcSeq) } := by
  have hyes : ((!adGo new || !adOn new) && s.adc.state != .idle) = true := by
    rw [Bool.and_eq_true, bne_iff_ne]
    exact ⟨by rcases h with h | h <;> simp [h], hbusy⟩
  rw [adcSettled, if_pos hyes]
  rfl

/-- The voltage of the channel whose number the field CHS holds, 0 V past the last (R60, R421). -/
theorem adChannel_of_chs {s : State} {m : Nat} (h : field s.adc.con0 2 5 = m) :
    adChannel s = if m < s.cfg.nAdcCh then s.vin[Fin.ofNat 32 m] else 0 := by
  subst h
  rfl

/-- The two ways of writing the queue without a trigger's entry. -/
theorem filter_trig_ne (t : TrigId) (l : List Event) :
    l.filter (fun e => e.trig != t) = l.filter (fun e => decide (e.trig ≠ t)) :=
  List.filter_congr fun e _ => by by_cases h : e.trig = t <;> simp [h]

/-- Settles O28, by the cases of the write: a start, with ADON or without, and a store, of an idle or a busy
sequencer. -/
theorem adcStartsAndAborts : Obligations.AdcStartsAndAborts := by
  intro v s hfiring c
  have hgo {b : Bool} (h : bit v 1 = b) : adGo c = b := (adGo_masked v).trans h
  have hon {b : Bool} (h : bit v 0 = b) : adOn c = b := (adOn_masked v).trans h
  have hcleared {b : Bool} (h : bit v 0 = b) : adOn (setBit c 1 false) = b := by
    rw [← hon h]
    simp [adOn, bit, setBit]
  have htaken : (setGo false (adcStored c s)).adc.con0 &&& 0xFD = c &&& 0xFD := setBit_and c false
  rw [exec_putAdcon0]
  refine ⟨fun hidle h1 hold h0 => ?start, fun hidle h1 hold h0 => ?off, fun hidle h1 => ?idle, fun hbusy h => ?abort,
    fun hbusy h1 h0 hold => ?kept⟩
  case start =>
    have hset : setBit (setBit c 1 false) 1 true = c := setBit_clear_set (hgo h1)
    have hcycle : (setGo false (adcStored c s)).effectCycle = s.now.toNat := effectCycle_of_idle hfiring
    have hcon0 : setBit (setGo false (adcStored c s)).adc.con0 1 true = c := hset
    have hchannel : adChannel (setGo true (setGo false (adcStored c s))) =
        if v.toNat / 4 % 32 < s.cfg.nAdcCh then s.vin[Fin.ofNat 32 (v.toNat / 4 % 32)] else 0 :=
      adChannel_of_chs ((congrArg (field · 2 5) hset).trans (field_and (by decide) v))
    obtain ⟨q, hq, hmem⟩ := reschedule_next .adcSeq (s.now.toNat + s.adc.acq.toNat) { s with adc := { s.adc with
      con0 := c, vhi := s.vrefhi, vlo := s.vreflo, state := .acquiring
      vin := if v.toNat / 4 % 32 < s.cfg.nAdcCh then s.vin[Fin.ofNat 32 (v.toNat / 4 % 32)] else 0 } }
    refine ⟨q, Eq.trans ?_ (congrArg _ hq), hmem⟩
    rw [writeAdcon0_go (hgo h1) hold, adcSettled_kept (hgo h1) (hon h0), adcStart_on (by exact hidle) (hcleared h0),
      hcycle, hchannel, hcon0]
    rfl
  case off =>
    rw [writeAdcon0_go (hgo h1) hold, adcStart_off (by exact hidle) (hcleared h0), adcSettled_idle c (by exact hidle),
      htaken]
    rfl
  case idle =>
    rw [writeAdcon0_stored (.inl (hgo h1)), adcSettled_idle c (by exact hidle)]
    rfl
  case abort =>
    have hoff : adGo c = false ∨ adOn c = false := h.imp hgo hon
    rw [← filter_trig_ne]
    by_cases hstart : adGo c = true ∧ adGo s.adc.con0 = false
    · rw [writeAdcon0_go hstart.1 hstart.2, adcStart_busy (by exact hbusy), adcSettled_abort (by exact hbusy) hoff,
        htaken]
      rfl
    · have hnone : adGo c = false ∨ adGo s.adc.con0 = true := by
        rwa [not_and_or, Bool.not_eq_true, Bool.not_eq_false] at hstart
      rw [writeAdcon0_stored hnone, adcSettled_abort (by exact hbusy) hoff]
      rfl
  case kept =>
    rw [writeAdcon0_stored (.inr hold), adcSettled_kept (hgo h1) (hon h0)]
    rfl

/-! ### The end of the acquisition -/

/-- Half a cycle a clock, rounded up to whole cycles (R426). -/
theorem ceil_half (n : Nat) : ((n : Rat) * mkRat 1 2).ceil.toNat = (n + 1) / 2 := by
  have hq : (n : Rat) * mkRat 1 2 = ((n : Int) : Rat) / ((2 : Nat) : Rat) := by
    rw [Rat.mkRat_eq_div]
    push_cast
    ring
  have hceil (q : Rat) : q.ceil = ⌈q⌉ := Rat.ceil_eq_neg_floor_neg q
  rw [hq, hceil, Rat.ceil_intCast_div_natCast]
  push_cast
  omega

/-- Whole cycles a clock (R426). -/
theorem ceil_whole (n m : Nat) : ((n : Rat) * (m : Rat)).ceil.toNat = m * n := by
  rw [← Nat.cast_mul, ← Int.cast_natCast, Rat.ceil_intCast, Int.toNat_natCast, Nat.mul_comm]

/-- The callback of ADC_SEQ at the end of an acquisition (R422). -/
theorem adcSeqCallback_acquired (w : Wire) {s : State} {c d : Nat} (hstate : s.adc.state = .acquiring)
    (hc : s.effectCycle = c) (hd : adcDelay s = d) :
    adcSeqCallback w s = reschedule .adcSeq (c + d) { s with adc := { s.adc with state := .converting } } := by
  subst hc hd
  rw [adcSeqCallback, hstate]
  rfl

/-- Settles O29, by `adcSeqCallback_acquired` at the one event that is due. -/
theorem acquisitionEnds : Obligations.AcquisitionEnds := by
  intro rest s hdue hstate c n delay hpos
  have hdelay : adcDelay s = delay := by
    have hfield : field s.adc.con1 4 3 = s.adc.con1.toNat / 16 % 8 := rfl
    have hclock (m : Nat) := ceil_whole n m
    simp only [adcDelay, hfield, delay]
    generalize s.adc.con1.toNat / 16 % 8 = adcs
    match adcs with
    | 0 => exact ceil_half n
    | 1 => exact hclock 2
    | 2 => exact hclock 8
    | 4 => exact (hclock 1).trans (Nat.one_mul n)
    | 5 => exact hclock 4
    | 6 => exact hclock 16
    | 3 => rfl
    | m + 7 => rfl
  clear_value delay
  obtain ⟨q, hq, hmem⟩ := reschedule_next .adcSeq (c + delay)
    { s.firingNext .adcSeq rest with adc := { s.adc with state := .converting } }
  have hcall := adcSeqCallback_acquired (s := s.firingNext .adcSeq rest) signal hstate rfl hdelay
  refine ⟨q, step_firingNext hdue (hcall.trans hq) rfl fun e he => ?_, hmem⟩
  obtain ⟨-, -, -, hlater⟩ := hdue
  rcases (hmem e).1 he with ⟨h, -⟩ | rfl
  · exact hlater e h
  · exact Nat.lt_add_of_pos_right hpos

/-! ### The end of a conversion -/

/-- The result of a conversion (R424). -/
def adcResult (s : State) : Nat :=
  if s.adc.vhi ≤ s.adc.vlo then 0 else quantizeSpan s.cfg.adcBits s.adc.vin s.adc.vhi s.adc.vlo

/-- The warning of a span that is not positive (R424). -/
def spanWarning (s : State) (c : Nat) : List OutRec := if s.adc.vhi ≤ s.adc.vlo then [.warn .adcSpan c] else []

theorem quantize_eq (s : State) : quantize s =
    (adcResult s, { s with out := s.out ++ spanWarning s s.now.toNat }) := by
  unfold quantize adcResult spanWarning
  split
  · rfl
  · rw [List.append_nil]

/-- The two bytes of a result, justified by ADFM (R425). -/
theorem resultWord_bytes (n : Nat) (adfm : Bool) (r : Nat) :
    highByte (resultWord n adfm r) = BitVec.ofNat 8 ((if adfm = true then r else r * 2 ^ (16 - n)) / 256) ∧
    lowByte (resultWord n adfm r) = BitVec.ofNat 8 (if adfm = true then r else r * 2 ^ (16 - n)) := by
  have hword : resultWord n adfm r = BitVec.ofNat 16 (if adfm = true then r else r * 2 ^ (16 - n)) := by
    cases adfm <;> rfl
  rw [hword]
  generalize (if adfm = true then r else r * 2 ^ (16 - n)) = w
  constructor <;> apply BitVec.eq_of_toNat_eq
  · simp only [highByte, BitVec.extractLsb'_toNat, BitVec.toNat_ofNat, Nat.shiftRight_eq_div_pow]
    omega
  · simp only [lowByte, BitVec.extractLsb'_toNat, BitVec.toNat_ofNat, Nat.shiftRight_eq_div_pow]
    omega

/-- The callback of ADC_SEQ at the end of a conversion that hosts alone hear (R423). -/
theorem adcSeqCallback_converted {s : State} (hstate : s.adc.state = .converting) (hr : s.hostsOnly .adcDone)
    (hd : s.busDepth < s.cfg.busDepthMax) : adcSeqCallback signal s = { s with
      adc := { s.adc with
        resh := highByte (resultWord s.cfg.adcBits (bit s.adc.con1 7) (adcResult s))
        resl := lowByte (resultWord s.cfg.adcBits (bit s.adc.con1 7) (adcResult s))
        con0 := s.adc.con0 &&& 0xFD, state := .idle, flag := true }
      out := s.out ++ spanWarning s s.now.toNat ++ [.irq .adc s.now.toNat] ++
        s.heard .adcDone 0 (adcResult s) s.now.toNat } := by
  rw [adcSeqCallback, hstate]
  simp only [adcConverted, quantize_eq]
  exact publish_hosts .adcDone 0 _ _ hd hr

/-- The result in the words of R424. -/
theorem adcResult_eq (s : State) : adcResult s = if s.adc.vhi ≤ s.adc.vlo then 0 else
    min ((s.adc.vin - s.adc.vlo) / (s.adc.vhi - s.adc.vlo) * ((2 ^ s.cfg.adcBits - 1 : Nat) : Rat) + 1 / 2).floor.toNat
      (2 ^ s.cfg.adcBits - 1) := by
  have hhalf : mkRat 1 2 = 1 / 2 := by rw [Rat.mkRat_eq_div]; norm_num
  rw [adcResult, quantizeSpan, hhalf]

/-- Settles O30, by `adcSeqCallback_converted` at the one event that is due. -/
theorem conversionCompletes : Obligations.ConversionCompletes := by
  intro k rest s hs hn hstate hq hlater hr hd n c top r w
  obtain ⟨-, -, hbus, -⟩ := id hs
  have hcall := adcSeqCallback_converted (s := s.firingNext .adcSeq rest) hstate hr (lt_of_eq_of_lt hbus hd)
  have hresult : adcResult (s.firingNext .adcSeq rest) = r := adcResult_eq _
  obtain ⟨hhigh, hlow⟩ := resultWord_bytes (s.firingNext .adcSeq rest).cfg.adcBits
    (bit (s.firingNext .adcSeq rest).adc.con1 7) r
  have hcycle : (s.firingNext .adcSeq rest).now.toNat = c := now_succ hn
  rw [hresult, hcycle, hhigh, hlow] at hcall
  exact step_firingNext ⟨hs, hn, ⟨k, hq⟩, hlater⟩ hcall rfl hlater

end Sys2Proof.Machine
end

section
/-!
Proofs of the statements of 46_nco_angular_adc.md about the NCO: PUT of its registers (R400 to R402, R404) and its
overflow (R403, R404).
-/

namespace Sys2Proof.Machine

open Sys2Proof

/-! ### The registers' fields -/

theorem ncoCks_eq (n : Nco) : ncoCks n = n.clk.toNat % 4 := by simp [ncoCks, field]

theorem ncoPws_eq (n : Nco) : ncoPws n = n.clk.toNat / 32 := Nat.mod_eq_of_lt (by have := n.clk.isLt; omega)

/-- The NCO's input clocks a cycle (R400). -/
def ncoPerCycle (clk : Byte) : Nat := if clk.toNat % 4 = 1 then 4 else 1

theorem ncoPerCycle_cases (clk : Byte) : ncoPerCycle clk = 1 ∨ ncoPerCycle clk = 4 := by
  unfold ncoPerCycle
  split
  · exact .inr rfl
  · exact .inl rfl

theorem ncoRatio_perCycle (n : Nco) : ncoRatio n = ⟨ncoPerCycle n.clk, 1⟩ := by rw [ncoRatio_eq, ncoCks_eq, ncoPerCycle]

theorem tin_ncoRatio (n : Nco) (c : Nat) : tin (ncoRatio n) c = ((ncoPerCycle n.clk * c : Nat) : Int) := by
  rw [ncoRatio_perCycle, tin_whole]

/-- The NCO runs from an internal clock of an awake block (R400). -/
theorem ncoRun_iff (s : State) : ncoRun s = true ↔
    bit s.nco.con 7 = true ∧ s.nco.clk.toNat % 4 < 2 ∧ s.sleeping = false := by
  simp [ncoRun, ncoEn, ncoInternal, ncoCks_eq, and_assoc]

/-! ### The output where hosts alone hear it -/

theorem driveControl_ncoAlone {s : State} (h : s.ncoAlone) : driveControl signal .nco s = s := by
  obtain ⟨hpins, -⟩ := h
  exact driveWhere_none signal _ _ fun p => by simpa using (hpins p).2

/-- The records of the output's level, none where it stands (R404). -/
def ncoRecords (s : State) : List OutRec :=
  if ncoPinLevel s.nco = s.nco.lvl then [] else s.heard .ncoOut 0 (if ncoPinLevel s.nco then 1 else 0) s.now.toNat

/-- The output's level is presented, and told where it changed (R404). -/
theorem ncoOutput_alone {s : State} (h : s.ncoAlone) : ncoOutput signal s = { s with
    nco := { s.nco with lvl := ncoPinLevel s.nco }, out := s.out ++ ncoRecords s } := by
  obtain ⟨hpins, hhosts, hdepth⟩ := h
  unfold ncoOutput ncoRecords
  dsimp only
  generalize ncoPinLevel s.nco = new
  by_cases hsame : new = s.nco.lvl
  · rw [if_pos hsame, if_pos hsame, List.append_nil, hsame]
  · rw [if_neg hsame, if_neg hsame, driveSource, driveWhere_none signal _ _ fun p => by simpa using (hpins p).1]
    exact publish_hosts .ncoOut 0 _ _ hdepth hhosts

/-! ### The next overflow -/

theorem pending_ncoRecompute_stopped {s : State} (h : ncoRun s = false) : (ncoRecompute s).pending .ncoOvf = none := by
  rw [ncoRecompute, h, Bool.false_and, if_neg Bool.false_ne_true]
  exact pending_cancel_same _ _

/-- Only the queue moves. -/
theorem ncoRecompute_frame (s : State) : ncoRecompute s = { s with
    queue := (ncoRecompute s).queue, seq := (ncoRecompute s).seq } := by
  unfold ncoRecompute
  dsimp only
  split
  · rw [reschedule_with]
  · rfl

/-- The overflow of an NCO that is anchored at cycle `c` if it runs (R402). -/
theorem pending_ncoRecompute {s : State} {c : Nat}
    (hanchor : ncoRun s = true → s.nco.anchor = ((ncoPerCycle s.nco.clk * c : Nat) : Int)) :
    (ncoRecompute s).pending .ncoOvf = if ncoRun s = true ∧ s.nco.inc ≠ 0 then some
      (c + ((2 ^ 20 - s.nco.acc.toNat + s.nco.inc.toNat - 1) / s.nco.inc.toNat + ncoPerCycle s.nco.clk - 1) /
        ncoPerCycle s.nco.clk, s.seq) else none := by
  unfold ncoPerCycle at *
  rw [← ncoCks_eq] at *
  split
  next h => exact pending_ncoRecompute_running h.1 h.2 (hanchor h.1)
  next h =>
    by_cases hrun : ncoRun s = true
    · exact pending_ncoRecompute_zero (not_not.1 fun hinc => h ⟨hrun, hinc⟩)
    · exact pending_ncoRecompute_stopped (Bool.eq_false_iff.2 hrun)

/-! ### A PUT up to the next overflow -/

/-- What a PUT that leaves the registers `a`, `inc`, `con` and `clk` does before the next overflow and the output: the
output and any pulse end where EN goes to 0 (R401). -/
structure NcoStored (a : BitVec 20) (inc : Half) (con clk : Byte) (stop : Bool) (s t : State) : Prop
    extends EventsStand [.ncoPulse] s t where
  frame : t = { s with nco := t.nco, queue := t.queue }
  unit : t.nco = { s.nco with
    acc := a, inc := inc, con := con, clk := clk, anchor := t.nco.anchor, out := !stop && s.nco.out
    pulseLeft := if stop then 0 else s.nco.pulseLeft }
  anchor : ncoRun t = true → t.nco.anchor = ((ncoPerCycle clk * s.now.toNat : Nat) : Int)
  pulse : t.pending .ncoPulse = if stop then none else s.pending .ncoPulse

/-- The accumulator is brought up to date (R402). -/
theorem ncoSync_eq (s : State) : ∃ x, ncoSync s = { s with nco := { s.nco with acc := accNow s, anchor := x } } := by
  unfold ncoSync accNow
  split
  · exact ⟨_, rfl⟩
  · exact ⟨s.nco.anchor, rfl⟩

/-- EN going to 0 clears the output and any pulse (R401). -/
theorem ncoStop_eq (on : Bool) (s : State) : ncoStop on s = { s with
    nco := { s.nco with
      out := !(on && !ncoEn s.nco) && s.nco.out, pulseLeft := if on && !ncoEn s.nco then 0 else s.nco.pulseLeft }
    queue := if on && !ncoEn s.nco then (cancel .ncoPulse s).queue else s.queue } := by
  unfold ncoStop
  cases on && !ncoEn s.nco <;> rfl

/-- A running NCO counts on from the present cycle (R401). -/
theorem ncoReanchor_eq (s : State) : ∃ x, ncoReanchor s = { s with nco := { s.nco with anchor := x } } ∧
    (ncoRun s = true → x = ((ncoPerCycle s.nco.clk * s.now.toNat : Nat) : Int)) := by
  unfold ncoReanchor
  split
  next => exact ⟨_, rfl, fun _ => tin_ncoRatio s.nco s.now.toNat⟩
  next hrun => exact ⟨s.nco.anchor, rfl, fun h => absurd h hrun⟩

theorem ncoStored_spec {store : Nco → Nco} {s : State} {a : BitVec 20} {inc : Half} {con clk : Byte}
    (hstore : ∀ x, store { s.nco with acc := accNow s, anchor := x } =
      { s.nco with acc := a, inc := inc, con := con, clk := clk, anchor := x }) :
    NcoStored a inc con clk (bit s.nco.con 7 && !bit con 7) s (ncoStored store s) := by
  obtain ⟨x, hsync⟩ := ncoSync_eq s
  have hen : ncoEn { s.nco with acc := accNow s, anchor := x } = bit s.nco.con 7 := rfl
  have hen' : ncoEn { s.nco with acc := a, inc := inc, con := con, clk := clk, anchor := x } = bit con 7 := rfl
  have heq : ncoStored store s = ncoReanchor (ncoStop (bit s.nco.con 7) { s with nco := { s.nco with
      acc := a, inc := inc, con := con, clk := clk, anchor := x } }) := by
    rw [ncoStored, hsync]
    dsimp only
    rw [hstore, hen]
  rw [heq, ncoStop_eq]
  dsimp only
  rw [hen']
  generalize (bit s.nco.con 7 && !bit con 7) = stop
  obtain ⟨y, hanchored, hy⟩ := ncoReanchor_eq { s with
    nco := { s.nco with
      acc := a, inc := inc, con := con, clk := clk, anchor := x, out := !stop && s.nco.out
      pulseLeft := if stop then 0 else s.nco.pulseLeft }
    queue := if stop then (cancel .ncoPulse s).queue else s.queue }
  refine hanchored ▸ ⟨?events, rfl, rfl, hy, ?pulse⟩
  case events =>
    cases stop with
    | false => exact eventsStand_of_queue rfl
    | true => exact (eventsStand_cancel (List.mem_singleton.2 rfl) s).trans (eventsStand_of_queue rfl)
  case pulse =>
    cases stop with
    | false => rfl
    | true => exact pending_cancel_same s .ncoPulse

/-! ### A PUT as a whole -/

/-- The NCO reads the accumulator that it counts from, anchored at the present cycle (R400). -/
theorem accNow_anchored {s : State}
    (h : ncoRun s = true → s.nco.anchor = ((ncoPerCycle s.nco.clk * s.now.toNat : Nat) : Int)) :
    accNow s = s.nco.acc := by
  unfold accNow
  split
  next hrun =>
    rw [accAt, tin_ncoRatio, h hrun, State.cycle, sub_self, mul_zero, add_zero]
    simp
  next => rfl

/-- The output's level of R404 in the words of the statement. -/
theorem ncoPinLevel_eq (n : Nco) : ncoPinLevel n = (bit n.con 7 && n.out != (bit n.con 7 && bit n.con 4)) := by
  unfold ncoPinLevel ncoEn
  cases bit n.con 7 <;> rfl

/-- A PUT, heard by hosts alone, presents the output of what it stored (R401, R404). -/
theorem writeNco_alone {store : Nco → Nco} {s u : State} (halone : s.ncoAlone) (hu : ncoStored store s = u)
    (hframe : u = { s with nco := u.nco, queue := u.queue }) : writeNco signal store s = { s with
      nco := { u.nco with lvl := ncoPinLevel u.nco }, queue := (ncoRecompute u).queue, seq := (ncoRecompute u).seq
      out := s.out ++ if ncoPinLevel u.nco = u.nco.lvl then [] else
        s.heard .ncoOut 0 (if ncoPinLevel u.nco then 1 else 0) s.now.toNat } := by
  obtain ⟨q, n, hmoved⟩ : ∃ q n, ncoRecompute u = { s with nco := u.nco, queue := q, seq := n } :=
    ⟨_, _, (ncoRecompute_frame u).trans (by rw [hframe])⟩
  have hout := ncoOutput_alone (s := { s with nco := u.nco, queue := q, seq := n }) halone
  rw [writeNco, hu, hmoved]
  dsimp only
  rw [hout, driveControl_ncoAlone (by exact halone), ite_self]
  rfl

/-- What a PUT that leaves the registers `a`, `inc`, `con` and `clk` does, its output heard by hosts alone: nothing
changed but the NCO, its two events and the log (R401, R402, R404). -/
structure NcoWritten (a : BitVec 20) (inc : Half) (con clk : Byte) (stop lvl : Bool) (s t : State) : Prop where
  acc : accNow t = a
  unit : t.nco = { s.nco with
    acc := a, inc := inc, con := con, clk := clk, anchor := t.nco.anchor, out := !stop && s.nco.out
    pulseLeft := if stop then 0 else s.nco.pulseLeft, lvl := lvl }
  frame : t = { s with
    nco := t.nco, queue := t.queue, seq := t.seq
    out := s.out ++ if lvl = s.nco.lvl then [] else s.heard .ncoOut 0 (if lvl then 1 else 0) s.now.toNat }
  pulse : t.pending .ncoPulse = if stop then none else s.pending .ncoPulse
  overflow : t.pending .ncoOvf =
    if bit con 7 = true ∧ clk.toNat % 4 < 2 ∧ s.sleeping = false ∧ inc ≠ 0 then some
      (s.now.toNat + ((2 ^ 20 - a.toNat + inc.toNat - 1) / inc.toNat + ncoPerCycle clk - 1) / ncoPerCycle clk, s.seq)
    else none
  events : sameEventsBut [.ncoOvf, .ncoPulse] s.queue t.queue

theorem ncoWritten_writeNco {store : Nco → Nco} {s : State} {a : BitVec 20} {inc : Half} {con clk : Byte}
    (halone : s.ncoAlone) (hstore : ∀ x, store { s.nco with acc := accNow s, anchor := x } =
      { s.nco with acc := a, inc := inc, con := con, clk := clk, anchor := x }) :
    NcoWritten a inc con clk (bit s.nco.con 7 && !bit con 7)
      (bit con 7 && (!(bit s.nco.con 7 && !bit con 7) && s.nco.out) != (bit con 7 && bit con 4)) s
      (writeNco signal store s) := by
  have hu := ncoStored_spec hstore
  generalize hdef : ncoStored store s = u at hu
  generalize (bit s.nco.con 7 && !bit con 7) = stop at hu
  obtain ⟨hevents, hframe, hunit, hanchor, hpulse⟩ := hu
  rw [writeNco_alone halone hdef hframe]
  have hlvl : ncoPinLevel u.nco = (bit con 7 && (!stop && s.nco.out) != (bit con 7 && bit con 4)) := by
    rw [ncoPinLevel_eq, hunit]
  have hlast : u.nco.lvl = s.nco.lvl := by rw [hunit]
  have hacc : u.nco.acc = a := by rw [hunit]
  have hinc : u.nco.inc = inc := by rw [hunit]
  have hcon : u.nco.con = con := by rw [hunit]
  have hclk : u.nco.clk = clk := by rw [hunit]
  have hsleeping : u.sleeping = s.sleeping := by rw [hframe]
  have hseq : u.seq = s.seq := by rw [hframe]
  have hmoved := moved_ncoRecompute u
  generalize (bit con 7 && (!stop && s.nco.out) != (bit con 7 && bit con 4)) = lvl at hlvl ⊢
  rw [hlvl, hlast]
  refine ⟨?acc, ?unit, rfl, ?pulse, ?overflow, ?events⟩
  case acc =>
    refine (accNow_anchored fun hrun => ?_).trans hacc
    rw [← hclk] at hanchor
    exact hanchor (by rw [Machine.ncoRun, hsleeping]; exact hrun)
  case unit => exact congrArg (fun m : Nco => { m with lvl := lvl }) hunit
  case pulse => exact ((pending_of_eq rfl _).trans (hmoved.pending _ (by decide))).trans hpulse
  case overflow =>
    refine (pending_of_eq rfl _).trans ((pending_ncoRecompute fun hrun => by rw [hclk, hanchor hrun]).trans ?_)
    have hcond : (ncoRun u = true ∧ inc ≠ 0) ↔
        (bit con 7 = true ∧ clk.toNat % 4 < 2 ∧ s.sleeping = false ∧ inc ≠ 0) := by
      rw [ncoRun_iff, hcon, hclk, hsleeping, and_assoc, and_assoc]
    rw [hacc, hinc, hclk, hseq]
    exact if_congr hcond rfl rfl
  case events => exact ((hevents.mono (by decide)).trans (hmoved.toEventsStand.mono (by decide))).events

/-! ### The accumulator with one byte replaced -/

/-- The three cells of the accumulator as one number (R57, R400). -/
theorem toNat_accCells (s : State) : (readReg .ncoaccu s).toNat * 65536 + (readReg .ncoacch s).toNat * 256 +
    (readReg .ncoaccl s).toNat = (accNow s).toNat := toNat_accumulator (accNow s)

/-- A word put together of a high and a low part. -/
theorem toNat_append_add {m n : Nat} (x : BitVec m) (y : BitVec n) : (x ++ y).toNat = x.toNat * 2 ^ n + y.toNat := by
  rw [BitVec.toNat_append, ← Nat.shiftLeft_add_eq_or_of_lt y.isLt, Nat.shiftLeft_eq]

theorem toNat_storeAccl (v : Byte) (n : Nco) :
    (storeAccl v n).acc.toNat = n.acc.toNat - n.acc.toNat % 256 + v.toNat := by
  have hacc := n.acc.isLt
  refine (toNat_append_add (n.acc.extractLsb' 8 12) v).trans ?_
  rw [BitVec.extractLsb'_toNat, Nat.shiftRight_eq_div_pow]
  omega

theorem toNat_storeAcch (v : Byte) (n : Nco) :
    (storeAcch v n).acc.toNat = n.acc.toNat / 65536 * 65536 + v.toNat * 256 + n.acc.toNat % 256 := by
  have hacc := n.acc.isLt
  refine (toNat_append_add (n.acc.extractLsb' 16 4 ++ v) (n.acc.extractLsb' 0 8)).trans ?_
  rw [toNat_append_add, BitVec.extractLsb'_toNat, BitVec.extractLsb'_toNat, Nat.shiftRight_eq_div_pow,
    Nat.shiftRight_eq_div_pow]
  omega

theorem toNat_storeAccu (v : Byte) (n : Nco) :
    (storeAccu v n).acc.toNat = v.toNat % 16 * 65536 + n.acc.toNat % 65536 := by
  refine (toNat_append_add (v.extractLsb' 0 4) (n.acc.extractLsb' 0 16)).trans ?_
  rw [BitVec.extractLsb'_toNat, BitVec.extractLsb'_toNat, Nat.shiftRight_eq_div_pow, Nat.shiftRight_eq_div_pow]
  omega

/-! ### The PUT of each register -/

/-- NCOACCU takes the low half of the byte only (R57). -/
theorem storeAccu_masked (old v : Byte) : storeAccu (maskMerge 0x0F old v) = storeAccu v := by
  have hnibble (b : Byte) : b.extractLsb' 0 4 = (b &&& 0x0F).extractLsb' 0 4 := by
    rw [BitVec.extractLsb'_and]
    exact (BitVec.and_allOnes).symm
  funext n
  rw [storeAccu, storeAccu, hnibble (maskMerge _ _ _), maskMerge_and, ← hnibble]

/-- NCOCON takes its implemented bits only, and not OUT (R58). -/
theorem storeNcocon_masked (v : Byte) (s : State) : storeNcocon (putByte .ncocon v s) = storeNcocon v :=
  funext fun n => congrArg (fun b : Byte => { n with con := b }) (cellByte_putByte (r := .ncocon) rfl v s)

/-- Settles O53: every PUT by `ncoWritten_writeNco`, each register by the byte that it replaces. -/
theorem ncoWrites : Obligations.NcoWrites := by
  intro v s halone acc wrote a n
  have hwrote {r : Reg} {store : Nco → Nco} {b : BitVec 20} {inc : Half} {con clk : Byte} {m : Nat}
      (hexec : exec (putRow v r) s = .next (writeNco signal store s))
      (hstore : ∀ x, store { s.nco with acc := accNow s, anchor := x } =
        { s.nco with acc := b, inc := inc, con := con, clk := clk, anchor := x })
      (hb : b.toNat = m) : wrote r m inc con clk := by
    subst hb
    obtain ⟨hacc, hunit, hframe, hpulse, hoverflow, hevents⟩ := ncoWritten_writeNco halone hstore
    refine ⟨_, hexec, (toNat_accCells _).trans (congrArg BitVec.toNat hacc), ?_, ?_, ?_, ?_, ?_, ?_, ?_, hframe, hpulse,
      hoverflow, hevents⟩
    all_goals rw [hunit]
  have ha : (accNow s).toNat = a := (toNat_accCells s).symm
  clear_value a
  subst ha
  have hall {r : Reg} (hmask : wmask r = BitVec.allOnes 8) : exec (putRow v r) s = .next (onWrite signal r v s) :=
    (exec_putRow r v s).trans (congrArg _ (regPut_all hmask v s))
  have hsame {f g : Nco → Nco} (h : f = g) :
      Host.Outcome.next (writeNco signal f s) = (.next (writeNco signal g s) : Result) := by rw [h]
  let m : Nco := { s.nco with acc := accNow s }
  refine ⟨?accl, ?acch, ?accu, ?incl, ?inch, ?con, ?clk⟩
  case accl => exact hwrote (b := (storeAccl v m).acc) (hall rfl) (fun _ => rfl) (toNat_storeAccl v m)
  case acch => exact hwrote (b := (storeAcch v m).acc) (hall rfl) (fun _ => rfl) (toNat_storeAcch v m)
  case accu =>
    exact hwrote (b := (storeAccu v m).acc) ((exec_putRow .ncoaccu v s).trans (hsame (storeAccu_masked _ v)))
      (fun _ => rfl) (toNat_storeAccu v m)
  case incl => exact hwrote (hall rfl) (fun _ => rfl) rfl
  case inch => exact hwrote (hall rfl) (fun _ => rfl) rfl
  case con =>
    exact hwrote ((exec_putRow .ncocon v s).trans (hsame (storeNcocon_masked v s))) (fun _ => rfl) rfl
  case clk =>
    exact hwrote ((exec_putRow .ncoclk v s).trans (congrArg _ (regPut_masked rfl (fun _ => rfl) v s)))
      (fun _ => rfl) rfl

/-! ### The overflow -/

/-- The output of an overflow, before it is presented: it toggles, or with PFM a pulse of `2^PWS` input clocks begins
(R403). -/
def ncoOverflowed (c : Nat) (s : State) : State :=
  if ncoPfm s.nco then
    reschedule .ncoPulse (c + (2 ^ ncoPws s.nco + ncoPerCycle s.nco.clk - 1) / ncoPerCycle s.nco.clk)
      { s with nco := { s.nco with out := true } }
  else { s with nco := { s.nco with out := !s.nco.out } }

theorem ncoOverflow_internal (w : Wire) (c : Nat) {s : State} (h : ncoInternal s.nco = true) :
    ncoOverflow w c s = ncoOutput w (ncoOverflowed c (raiseIF .nco s)) := by
  have hcycle := cycleOf_ahead (ncoPerCycle_cases s.nco.clk) c (2 ^ ncoPws s.nco)
  push_cast at hcycle
  refine congrArg (ncoOutput w) (ite_congr rfl (fun _ => ?_) fun _ => rfl)
  dsimp only
  rw [if_pos (by exact h), tin_ncoRatio, ncoRatio_perCycle]
  push_cast
  exact congrArg (fun d => reschedule .ncoPulse d _) hcycle

/-- What an overflow leaves before its output is presented: nothing changed but the output and the pulse's event. -/
structure NcoOverflowed (c : Nat) (s t : State) : Prop extends EventsStand [.ncoPulse] s t where
  frame : t = { s with nco := { s.nco with out := bit s.nco.con 0 || !s.nco.out }, queue := t.queue, seq := t.seq }
  pulse : t.pending .ncoPulse = if bit s.nco.con 0 then
    some (c + (2 ^ (s.nco.clk.toNat / 32) + ncoPerCycle s.nco.clk - 1) / ncoPerCycle s.nco.clk, s.seq)
    else s.pending .ncoPulse

theorem ncoOverflowed_spec (c : Nat) (s : State) : NcoOverflowed c s (ncoOverflowed c s) := by
  by_cases hpfm : bit s.nco.con 0 = true
  · have hset : EventsStand [.ncoPulse] s { s with nco := { s.nco with out := true } } := eventsStand_of_queue rfl
    rw [ncoOverflowed, if_pos (by exact hpfm), ncoPws_eq]
    refine ⟨hset.trans (eventsStand_reschedule (List.mem_singleton.2 rfl) _ _), ?_, ?_⟩
    · rw [hpfm, reschedule_with]
      rfl
    · rw [if_pos hpfm, pending_reschedule_same]
  · rw [ncoOverflowed, if_neg (by exact hpfm)]
    refine ⟨eventsStand_of_queue rfl, ?_, ?_⟩
    · rw [eq_false_of_ne_true hpfm]
      rfl
    · rw [if_neg hpfm]
      rfl

/-- What the callback of NCO_OVF at cycle `c` does, the output heard by hosts alone (R403, R404). -/
structure NcoFired (c : Nat) (lvl : Bool) (s t : State) : Prop where
  frame : t = { s with
    nco := { s.nco with
      acc := accAt s c, anchor := ((ncoPerCycle s.nco.clk * c : Nat) : Int), flag := true
      out := bit s.nco.con 0 || !s.nco.out, lvl := lvl }
    queue := t.queue, seq := t.seq
    out := s.out ++ [.irq .nco s.now.toNat] ++
      if lvl = s.nco.lvl then [] else s.heard .ncoOut 0 (if lvl then 1 else 0) s.now.toNat }
  pulse : t.pending .ncoPulse = if bit s.nco.con 0 then
    some (c + (2 ^ (s.nco.clk.toNat / 32) + ncoPerCycle s.nco.clk - 1) / ncoPerCycle s.nco.clk, s.seq)
    else s.pending .ncoPulse
  overflow : ∃ ins, t.pending .ncoOvf = if s.nco.inc ≠ 0 then some
    (c + ((2 ^ 20 - (accAt s c).toNat + s.nco.inc.toNat - 1) / s.nco.inc.toNat + ncoPerCycle s.nco.clk - 1) /
      ncoPerCycle s.nco.clk, ins) else none
  events : sameEventsBut [.ncoOvf, .ncoPulse] s.queue t.queue

theorem ncoOvfCallback_eq {c : Nat} {s : State} (hinternal : ncoInternal s.nco = true) (hc : s.effectCycle = c) :
    ncoOvfCallback signal s = ncoRecompute (ncoOutput signal (ncoOverflowed c (raiseIF .nco { s with nco := { s.nco with
      acc := accAt s c, anchor := ((ncoPerCycle s.nco.clk * c : Nat) : Int) } }))) := by
  subst hc
  rw [ncoOvfCallback]
  dsimp only
  rw [tin_ncoRatio, ncoOverflow_internal _ _ (by exact hinternal)]

theorem ncoFired_callback {c : Nat} {lvl : Bool} {s : State} (hrun : ncoRun s = true) (halone : s.ncoAlone)
    (hc : s.effectCycle = c) (hlvl : ((bit s.nco.con 0 || !s.nco.out) != bit s.nco.con 4) = lvl) :
    NcoFired c lvl s (ncoOvfCallback signal s) := by
  obtain ⟨hen, hcks, -⟩ := (ncoRun_iff s).1 hrun
  have hinternal : ncoInternal s.nco = true := decide_eq_true (by rwa [ncoCks_eq])
  rw [ncoOvfCallback_eq hinternal hc]
  have hover := ncoOverflowed_spec c (raiseIF .nco { s with nco := { s.nco with
    acc := accAt s c, anchor := ((ncoPerCycle s.nco.clk * c : Nat) : Int) } })
  generalize ncoOverflowed c _ = u at hover ⊢
  obtain ⟨hevents, hframe, hpulse⟩ := hover
  obtain ⟨v, hv⟩ : ∃ v : State, v = { u with
    nco := { u.nco with lvl := lvl }
    out := u.out ++ if lvl = u.nco.lvl then [] else u.heard .ncoOut 0 (if lvl then 1 else 0) u.now.toNat } := ⟨_, rfl⟩
  have hout : ncoOutput signal u = v := by
    have hpin : ncoPinLevel u.nco = lvl := by
      rw [hframe]
      exact (congrArg (· && _) hen).trans ((Bool.true_and _).trans hlvl)
    rw [ncoOutput_alone (by rw [hframe]; exact halone), ncoRecords, hpin, hv]
  have hunit : v.nco = { s.nco with
      acc := accAt s c, anchor := ((ncoPerCycle s.nco.clk * c : Nat) : Int), flag := true
      out := bit s.nco.con 0 || !s.nco.out, lvl := lvl } := by
    rw [hv, hframe]
    rfl
  have hrunning : ncoRun v = true := by
    rw [hv, hframe]
    exact hrun
  have hmoved := moved_ncoRecompute v
  have hnext := pending_ncoRecompute (s := v) (c := c) fun _ => by rw [hunit]
  rw [hout]
  refine ⟨?frame, ?pulse, ⟨v.seq, ?overflow⟩, ?events⟩
  case frame =>
    refine (ncoRecompute_frame v).trans ?_
    generalize ncoRecompute v = t
    rw [hv, hframe]
    rfl
  case pulse => exact ((hmoved.pending _ (by decide)).trans (pending_of_eq (by rw [hv]) _)).trans hpulse
  case overflow => simpa only [hunit, hrunning, true_and] using hnext
  case events =>
    have hshown : EventsStand [.ncoPulse] u v := eventsStand_of_queue (by rw [hv])
    exact (((hevents.trans hshown).mono (by decide)).trans (hmoved.toEventsStand.mono (by decide))).events

/-! ### The STEP that reaches the overflow -/

/-- Input clocks ahead end in a later cycle. -/
theorem lt_add_cycles (c : Nat) {d : Nat} (hd : 0 < d) (clk : Byte) :
    c < c + (d + ncoPerCycle clk - 1) / ncoPerCycle clk := by
  rcases ncoPerCycle_cases clk with h | h <;> rw [h] <;> omega

/-- At least one input clock leads to the overflow (R402). -/
theorem clocksToOverflow_pos (acc : BitVec 20) {inc : Half} (hinc : inc ≠ 0) :
    0 < (2 ^ 20 - acc.toNat + inc.toNat - 1) / inc.toNat := by
  have hacc := acc.isLt
  have hpos : 0 < inc.toNat := Nat.pos_of_ne_zero fun h => hinc (BitVec.eq_of_toNat_eq h)
  exact Nat.div_pos (by omega) hpos

/-- Settles O54, by `ncoFired_callback` at the one event that is due. -/
theorem ncoOverflows : Obligations.NcoOverflows := by
  intro rest s hdue halone hrun n c k acc out lvl
  obtain ⟨-, hn, -, hlater⟩ := id hdue
  have hcycle : (s.firingNext .ncoOvf rest).now.toNat = c := now_succ hn
  have hacc : accAt (s.firingNext .ncoOvf rest) c = acc := by
    rw [accAt, tin_ncoRatio]
    rfl
  have hfired : NcoFired c lvl (s.firingNext .ncoOvf rest) _ := ncoFired_callback hrun halone rfl rfl
  have hkeeps := (ran_ncoOvfCallback (s.firingNext .ncoOvf rest)).queueOk (queueOk_firingNext hdue)
  generalize hcall : ncoOvfCallback signal (s.firingNext .ncoOvf rest) = t at hfired hkeeps
  obtain ⟨hframe, hpulse, ⟨ins, hoverflow⟩, hevents⟩ := hfired
  rw [pending_firingNext hdue (by decide)] at hpulse
  rw [hacc] at hframe hoverflow
  rw [hcycle] at hframe
  refine ⟨{ t with firing := s.firing }, step_firingNext hdue hcall ?now ?later, ?frame, hpulse, fun hinc => ?none,
    fun hinc => ⟨ins, ?some⟩, hevents⟩
  case now => rw [hframe]; rfl
  case later =>
    have hovf (p : Nat × Nat) (hp : t.pending .ncoOvf = some p) : c < p.1 := by
      rw [hoverflow, Option.ite_none_right_eq_some] at hp
      obtain ⟨hinc, hsome⟩ := hp
      rw [← Option.some.inj hsome]
      exact lt_add_cycles c (clocksToOverflow_pos acc hinc) _
    have hpls (p : Nat × Nat) (hp : t.pending .ncoPulse = some p) : c < p.1 := by
      rw [hpulse] at hp
      split at hp
      next =>
        rw [← Option.some.inj hp]
        exact lt_add_cycles c (Nat.two_pow_pos _) _
      next =>
        rw [← pending_firingNext hdue (by decide)] at hp
        exact hlater _ (pending_some_mem hp)
    exact later_of_pending hkeeps hevents hlater (List.forall_mem_cons.2 ⟨hovf, List.forall_mem_singleton.2 hpls⟩)
  case frame =>
    generalize t.queue = q at hframe
    rw [hframe]
    rfl
  case none => exact hoverflow.trans (if_neg (not_not.2 hinc))
  case some => exact hoverflow.trans (if_pos hinc)

end Sys2Proof.Machine
end

section
/-!
Proof of the statement of 60_exceptions.md about the flag registers: a PUT stores its bit 0 in the flag and requests
nothing (R441).
-/

namespace Sys2Proof.Machine

open Sys2Proof

/-- The register whose bit 0 is the flag (R111). -/
def flagReg : Flag → Reg
  | .tmr0 => .t0stat
  | .tmr1 => .t1stat
  | .tmrx x => .tstat x
  | .ccp i => .ccpstat i
  | .clc n => .clcstat n
  | .nco => .ncostat
  | .adc => .adstat

theorem onWrite_flagReg (w : Wire) (f : Flag) (new : Byte) (s : State) :
    onWrite w (flagReg f) new s = putFlag f new s := by cases f <;> rfl

theorem wmask_flagReg (f : Flag) : wmask (flagReg f) = 0x01 := by cases f <;> rfl

/-- A writable bit of a merge is the written one (R160). -/
theorem bit_maskMerge {mask : Byte} {i : Nat} (h : bit mask i = true) (old v : Byte) :
    bit (maskMerge mask old v) i = bit v i := by
  unfold bit at *
  simp [maskMerge, h]

/-- A PUT of a flag register sets the flag to bit 0 of the byte, with no request (R441). -/
theorem regPut_flagReg (f : Flag) (v : Byte) (s : State) :
    regPut (flagReg f) v s = s.setFlag f (v.getLsbD 0) := by
  rw [regPut, onWrite_flagReg, putFlag, putByte, wmask_flagReg, bit_maskMerge (by decide)]
  rfl

/-- Settles O25: each of the thirteen cells is the register of one flag, by `regPut_flagReg`. -/
theorem flagPuts : Obligations.FlagPuts := by
  intro v s b
  have hput (f : Flag) : Host.Outcome.next (regPut (flagReg f) v s) = (.next (s.setFlag f b) : Result) :=
    congrArg Host.Outcome.next (regPut_flagReg f v s)
  exact ⟨hput .tmr0, hput .tmr1, hput (.tmrx .t2), hput (.tmrx .t4), hput (.tmrx .t6), hput (.ccp .ccp1),
    hput (.ccp .ccp2), hput (.clc .clc1), hput (.clc .clc2), hput (.clc .clc3), hput (.clc .clc4), hput .nco, hput .adc⟩

end Sys2Proof.Machine
end

section
/-!
Laws of SLEEP (60_exceptions.md R455): what each stop transition leaves of the counters' readings, their registers and the
queue, and the NCO brought up to date.
-/

namespace Sys2Proof.Machine

open Sys2Proof

/-! ### The counters as they read -/

/-- Every timer reads the same count in both states, and is otherwise the same but for its run and its breakpoint. -/
structure TimersKept (s t : State) : Prop where
  t0 : t.t0.standing = s.t0.standing
  t1 : t.t1.standing = s.t1.standing
  tm : ∀ x, (t.tm x).standing = (s.tm x).standing
  count0 : t0Count t = t0Count s
  count1 : t1Count t = t1Count s
  count2 : ∀ x, t2Count t x = t2Count s x

theorem TimersKept.trans {s t u : State} (a : TimersKept s t) (b : TimersKept t u) : TimersKept s u :=
  ⟨b.t0.trans a.t0, b.t1.trans a.t1, fun x => (b.tm x).trans (a.tm x), b.count0.trans a.count0, b.count1.trans a.count1,
    fun x => (b.count2 x).trans (a.count2 x)⟩

theorem t0Count_congr {s t : State} (ht0 : t.t0 = s.t0) (hnow : t.now = s.now) : t0Count t = t0Count s := by
  simp only [t0Count, t0Abs, State.cycle, ht0, hnow]

theorem t1Count_congr {s t : State} (ht1 : t.t1 = s.t1) (hnow : t.now = s.now) : t1Count t = t1Count s := by
  simp only [t1Count, t1Abs, State.cycle, ht1, hnow]

theorem t2Count_congr {s t : State} {x : T2Id} (htm : t.tm x = s.tm x) (hnow : t.now = s.now) :
    t2Count t x = t2Count s x := by
  simp only [t2Count, t2Abs, State.cycle, htm, hnow]

theorem timersKept_of_same {s t : State} (h0 : t.t0 = s.t0) (h1 : t.t1 = s.t1) (h2 : ∀ x, t.tm x = s.tm x)
    (hnow : t.now = s.now) : TimersKept s t :=
  ⟨by rw [h0], by rw [h1], fun x => by rw [h2 x], t0Count_congr h0 hnow, t1Count_congr h1 hnow,
    fun x => t2Count_congr (h2 x) hnow⟩

/-- The timers are kept by a move of units that are no timers. -/
theorem Moved.timersKept {ts : List TrigId} {s t : State} (h : Moved ts s t) (h0 : .t0Ovf ∉ ts) (h1 : .t1Brk ∉ ts)
    (h2 : ∀ x, .tBrk x ∉ ts) : TimersKept s t :=
  timersKept_of_same (h.t0 h0) (h.t1 h1) (fun x => h.tm x (h2 x)) h.now

/-- Timers that do not run read the same at any time (R212, R220, R232). -/
theorem timersKept_at {s : State} (h0 : s.t0.run = false) (h1 : s.t1.run = false) (h2 : ∀ x, (s.tm x).run = false)
    (c : Long) : TimersKept s { s with now := c } := by
  have htm (x : T2Id) : State.tm { s with now := c } x = s.tm x := by cases x <;> rfl
  refine ⟨rfl, rfl, fun x => congrArg Timer2.standing (htm x), ?_, ?_, fun x => ?_⟩
  · simp [t0Count, h0]
  · simp [t1Count, h1]
  · simp [t2Count, htm, h2]

/-! ### The events of the counters that stop -/

/-- The units of the triggers in `ts` have moved, and none of these triggers has an event any more. -/
structure Stopped (ts : List TrigId) (s t : State) : Prop extends Moved ts s t where
  gone : ∀ e ∈ t.queue, e.trig ∉ ts

theorem Stopped.mem_iff {ts : List TrigId} {s t : State} (h : Stopped ts s t) (e : Event) :
    e ∈ t.queue ↔ e ∈ s.queue ∧ e.trig ∉ ts := by
  constructor
  · intro he
    exact ⟨(h.events e (h.gone e he)).1 he, h.gone e he⟩
  · rintro ⟨he, hts⟩
    exact (h.events e hts).2 he

theorem Stopped.append {ts us : List TrigId} {s t u : State} (a : Stopped ts s t) (b : Stopped us t u) :
    Stopped (ts ++ us) s u := by
  refine ⟨a.toMoved.append b.toMoved, fun e he => ?_⟩
  obtain ⟨het, hus⟩ := (b.mem_iff e).1 he
  simpa using ⟨a.gone e het, hus⟩

/-- The units may have moved before they stop. -/
theorem Stopped.of_moved {ts us : List TrigId} {s t u : State} (a : Moved us s t) (b : Stopped ts t u) (hsub : us ⊆ ts) :
    Stopped ts s u := ⟨(a.mono hsub).trans b.toMoved, b.gone⟩

theorem stopped_ite {c : Bool} {u : TrigId} {s t : State} (h : c = true → Stopped [u] s t) :
    Stopped (movers c u) s (if c then t else s) := by
  cases c with
  | true => exact h rfl
  | false => exact ⟨.refl _ s, fun _ _ => List.not_mem_nil⟩

/-- A unit moves and its event is cancelled. -/
theorem stopped_cancel {u : TrigId} {s t : State} (h : Moved [u] s t) : Stopped [u] s (cancel u t) :=
  ⟨h.trans (moved_cancel (List.mem_singleton.2 rfl) t), fun e he => by
    rw [List.mem_singleton]
    simpa using (List.mem_filter.1 he).2⟩

/-! ### The stop transitions -/

theorem stopped_sleepT0 (ran : Bool) (v : Byte) (s : State) : Stopped (movers ran .t0Ovf) s (sleepT0 ran v s) :=
  stopped_ite fun _ => stopped_cancel (moved_t0 s _)

theorem stopped_sleepT1 (ran : Bool) (v : Half) {s : State} (h : s.sleeping = true) :
    Stopped (movers ran .t1Brk) s (sleepT1 ran v s) := by
  refine stopped_ite fun _ => ?_
  rw [t1Update, if_neg (by simp [t1RunCond, h]), t1Recompute, if_neg Bool.false_ne_true]
  exact stopped_cancel ((moved_t1 s _).trans (moved_t1 _ _))

theorem stopped_sleepT2 (x : T2Id) (ran : Bool) (v : Byte) {s : State} (h : s.sleeping = true) :
    Stopped (movers ran (.tBrk x)) s (sleepT2 x ran v s) := by
  refine stopped_ite fun _ => ?_
  rw [t2Update, if_neg (by simp [t2RunCond, h]), t2Recompute, t2Place, setTm_tm_same, if_neg Bool.false_ne_true]
  exact stopped_cancel ((moved_setTm s x _).trans (moved_setTm _ x _))

theorem timersKept_sleepT0 (ran : Bool) {v : Byte} {s : State} (hv : v = t0Count s) :
    TimersKept s (sleepT0 ran v s) := by
  have hm := (stopped_sleepT0 ran v s).toMoved
  have h1 : .t1Brk ∉ movers ran .t0Ovf := by simp [mem_movers]
  have h2 (x : T2Id) : .tBrk x ∉ movers ran .t0Ovf := by simp [mem_movers]
  refine ⟨?standing, by rw [hm.t1 h1], fun x => by rw [hm.tm x (h2 x)], ?count, t1Count_congr (hm.t1 h1) hm.now,
    fun x => t2Count_congr (hm.tm x (h2 x)) hm.now⟩
  case standing => cases ran <;> rfl
  case count =>
    cases ran with
    | true => exact hv
    | false => rfl

theorem timersKept_sleepT1 (ran : Bool) {v : Half} {s : State} (h : s.sleeping = true) (hv : v = t1Count s) :
    TimersKept s (sleepT1 ran v s) := by
  have hm := (stopped_sleepT1 ran v h).toMoved
  have h0 : .t0Ovf ∉ movers ran .t1Brk := by simp [mem_movers]
  have h2 (x : T2Id) : .tBrk x ∉ movers ran .t1Brk := by simp [mem_movers]
  have hupdate := t1CountsFrom_t1Update v s
  refine ⟨by rw [hm.t0 h0], ?standing, fun x => by rw [hm.tm x (h2 x)], t0Count_congr (hm.t0 h0) hm.now, ?count,
    fun x => t2Count_congr (hm.tm x (h2 x)) hm.now⟩
  case standing =>
    cases ran with
    | true => exact hupdate.standing
    | false => rfl
  case count =>
    cases ran with
    | true => exact hupdate.count.trans hv
    | false => rfl

theorem timersKept_sleepT2 (x : T2Id) (ran : Bool) {v : Byte} {s : State} (h : s.sleeping = true)
    (hv : v = t2Count s x) : TimersKept s (sleepT2 x ran v s) := by
  have hm := (stopped_sleepT2 x ran v h).toMoved
  have h0 : .t0Ovf ∉ movers ran (.tBrk x) := by simp [mem_movers]
  have h1 : .t1Brk ∉ movers ran (.tBrk x) := by simp [mem_movers]
  have hupdate := t2CountsFrom_t2Update x v s
  have hx : ((sleepT2 x ran v s).tm x).standing = (s.tm x).standing ∧ t2Count (sleepT2 x ran v s) x = t2Count s x := by
    cases ran with
    | true => exact ⟨hupdate.standing, hupdate.count.trans hv⟩
    | false => exact ⟨rfl, rfl⟩
  have hother {y : T2Id} (hy : y ≠ x) : (sleepT2 x ran v s).tm y = s.tm y := hm.tm y (by simp [mem_movers, hy])
  obtain ⟨hstanding, hcount⟩ := hx
  refine ⟨by rw [hm.t0 h0], by rw [hm.t1 h1], fun y => ?_, t0Count_congr (hm.t0 h0) hm.now,
    t1Count_congr (hm.t1 h1) hm.now, fun y => ?_⟩
  · by_cases hy : y = x
    · exact hy ▸ hstanding
    · rw [hother hy]
  · by_cases hy : y = x
    · exact hy ▸ hcount
    · exact t2Count_congr (hother hy) hm.now

/-! ### The NCO -/

/-- Bringing the accumulator up to date keeps what the NCO reads, and all else of it (R402). -/
theorem ncoSync_nco (s : State) :
    (ncoSync s).nco.acc = accNow s ∧ (ncoSync s).nco.standing = s.nco.standing := by
  unfold ncoSync
  split
  next => exact ⟨rfl, rfl⟩
  next hrun => exact ⟨(if_neg hrun).symm, rfl⟩

/-- An NCO that does not run reads its accumulator as it stands (R400). -/
theorem accNow_asleep {s : State} (h : s.sleeping = true) : accNow s = s.nco.acc :=
  if_neg (by simp [ncoRun, h])

/-- Bringing the accumulator up to date before the sleep moves the NCO alone, if it runs. -/
theorem moved_ncoSync_asleep (s : State) :
    Moved (movers (ncoRun s) .ncoOvf) { s with sleeping := true } { ncoSync s with sleeping := true } := by
  unfold ncoSync
  split
  next hrun =>
    rw [hrun]
    exact moved_nco { s with sleeping := true } _
  next => exact .refl _ _

end Sys2Proof.Machine
end

section
/-!
Proof of the statement of 60_exceptions.md about SLEEP (R455): the stop transitions one after another, each of which keeps
what its counter reads and takes its event away.
-/

namespace Sys2Proof.Machine

open Sys2Proof

/-! ### The timers -/

/-- The stop transitions of the timers that run in `s`, in the order of R455, from the state `u`. -/
def sleepTimers (s u : State) : State :=
  sleepT2 .t6 s.t6.run (t2Count s .t6) (sleepT2 .t4 s.t4.run (t2Count s .t4) (sleepT2 .t2 s.t2.run (t2Count s .t2)
    (sleepT1 s.t1.run (t1Count s) (sleepT0 s.t0.run (t0Count s) u))))

/-- The triggers of the timers that run. -/
def timerMovers (s : State) : List TrigId :=
  movers s.t0.run .t0Ovf ++ movers s.t1.run .t1Brk ++ movers s.t2.run (.tBrk .t2) ++ movers s.t4.run (.tBrk .t4) ++
    movers s.t6.run (.tBrk .t6)

theorem sleepTimers_spec {s u : State} (hsleeping : u.sleeping = true) (hs : TimersKept s u) :
    Stopped (timerMovers s) u (sleepTimers s u) ∧ TimersKept s (sleepTimers s u) := by
  have a0 := stopped_sleepT0 s.t0.run (t0Count s) u
  have k0 := hs.trans (timersKept_sleepT0 s.t0.run hs.count0.symm)
  have h0 := a0.sleeping.trans hsleeping
  have a1 := a0.append (stopped_sleepT1 s.t1.run (t1Count s) h0)
  have k1 := k0.trans (timersKept_sleepT1 s.t1.run h0 k0.count1.symm)
  have h1 := a1.sleeping.trans hsleeping
  have a2 := a1.append (stopped_sleepT2 .t2 s.t2.run (t2Count s .t2) h1)
  have k2 := k1.trans (timersKept_sleepT2 .t2 s.t2.run h1 (k1.count2 .t2).symm)
  have h2 := a2.sleeping.trans hsleeping
  have a4 := a2.append (stopped_sleepT2 .t4 s.t4.run (t2Count s .t4) h2)
  have k4 := k2.trans (timersKept_sleepT2 .t4 s.t4.run h2 (k2.count2 .t4).symm)
  have h4 := a4.sleeping.trans hsleeping
  exact ⟨a4.append (stopped_sleepT2 .t6 s.t6.run (t2Count s .t6) h4),
    k4.trans (timersKept_sleepT2 .t6 s.t6.run h4 (k4.count2 .t6).symm)⟩

/-! ### SLEEP -/

theorem goToSleep_eq (s : State) : goToSleep s =
    if ncoRun s then cancel .ncoOvf (sleepTimers s { ncoSync s with sleeping := true })
    else sleepTimers s { ncoSync s with sleeping := true } := rfl

/-- The triggers of the counters that run. -/
def sleepMovers (s : State) : List TrigId := timerMovers s ++ movers (ncoRun s) .ncoOvf

/-- What SLEEP leaves of a block that is awake (R455). -/
structure Slept (s t : State) : Prop extends TimersKept s t where
  stopped : Stopped (sleepMovers s) { s with sleeping := true } t
  acc : t.nco.acc = accNow s
  nco : t.nco.standing = s.nco.standing

theorem slept_goToSleep (s : State) : Slept s (goToSleep s) := by
  have hsync := moved_ncoSync_asleep s
  have hasleep : TimersKept s { s with sleeping := true } :=
    timersKept_of_same rfl rfl (fun x => by cases x <;> rfl) rfl
  have hsynced := hasleep.trans (hsync.timersKept (by simp [mem_movers]) (by simp [mem_movers]) (by simp [mem_movers]))
  obtain ⟨htimers, hkept⟩ := sleepTimers_spec rfl hsynced
  have hcancel : Stopped (movers (ncoRun s) .ncoOvf) (sleepTimers s { ncoSync s with sleeping := true })
      (goToSleep s) := stopped_ite fun _ => stopped_cancel (.refl _ _)
  have hnco : (goToSleep s).nco = (ncoSync s).nco := by
    have hlast : (goToSleep s).nco = (sleepTimers s { ncoSync s with sleeping := true }).nco := by
      rw [goToSleep_eq]
      split <;> rfl
    exact hlast.trans (htimers.nco (by simp [timerMovers, mem_movers]))
  obtain ⟨hacc, hstanding⟩ := ncoSync_nco s
  rw [← hnco] at hacc hstanding
  exact ⟨hkept.trans (hcancel.timersKept (by simp [mem_movers]) (by simp [mem_movers]) (by simp [mem_movers])),
    .of_moved hsync (htimers.append hcancel) (List.subset_append_right _ _), hacc, hstanding⟩

theorem mem_sleepMovers {s : State} {u : TrigId} : u ∈ sleepMovers s ↔
    (u = .t0Ovf ∧ s.t0.run = true) ∨ (u = .t1Brk ∧ s.t1.run = true) ∨ (∃ x, u = .tBrk x ∧ (s.tm x).run = true) ∨
      (u = .ncoOvf ∧ ncoRun s = true) := by
  have htm : (∃ x, u = .tBrk x ∧ (s.tm x).run = true) ↔ (u = .tBrk .t2 ∧ s.t2.run = true) ∨
      (u = .tBrk .t4 ∧ s.t4.run = true) ∨ (u = .tBrk .t6 ∧ s.t6.run = true) := by
    constructor
    · rintro ⟨x, h⟩
      cases x
      · exact .inl h
      · exact .inr (.inl h)
      · exact .inr (.inr h)
    · rintro (h | h | h) <;> exact ⟨_, h⟩
  simp only [htm, sleepMovers, timerMovers, List.mem_append, mem_movers, and_comm, or_assoc]

/-- The count registers read what the counters read. -/
theorem readReg_counts {s t : State} (h : TimersKept s t) (hacc : accNow t = accNow s) :
    ∀ r ∈ [Reg.tmr0, .tmr1l, .tmr1h, .tmr .t2, .tmr .t4, .tmr .t6, .ncoaccl, .ncoacch, .ncoaccu],
      readReg r t = readReg r s := by
  obtain ⟨-, -, -, h0, h1, h2⟩ := h
  simp [readReg, readDerived, h0, h1, h2, hacc]

/-- Settles O57: asleep already by the model's own test; else `slept_goToSleep`, with no timer running after it. -/
theorem sleepFreezes : Obligations.SleepFreezes := by
  intro s
  refine ⟨fun hasleep => ?asleep, fun hawake _ => ?awake⟩
  case asleep => exact if_pos hasleep
  case awake =>
    have hexec : exec .sleep s = .next (goToSleep s) := if_neg (ne_true_of_eq_false hawake)
    have hrunning := goToSleep_running s
    have h := slept_goToSleep s
    generalize goToSleep s = t at hexec hrunning h
    have hsleeping : t.sleeping = true := h.stopped.sleeping
    obtain ⟨h0, h1, h2⟩ := Running.still hrunning hsleeping
    refine ⟨t, hexec, hsleeping, h0, h1, h2, fun r hr c => ?reads, fun e => ?events, ⟨h.t0, h.t1, h.tm, h.nco⟩, ?frame⟩
    case reads =>
      have hacc : accNow { t with now := c } = accNow s := (accNow_asleep (by exact hsleeping)).trans h.acc
      exact readReg_counts (h.toTimersKept.trans (timersKept_at h0 h1 h2 c)) hacc r hr
    case events => rw [h.stopped.mem_iff, mem_sleepMovers]
    case frame =>
      have hnone : .oscOst ∉ sleepMovers s := by simp [mem_sleepMovers]
      have hosc : t.osc = s.osc := h.stopped.osc hnone
      have hout : t.out = s.out := h.stopped.out hnone
      refine h.stopped.frame.trans ?_
      rw [hosc, hout]

end Sys2Proof.Machine
end

section
/-!
Laws of RESET (70_reset_and_hazards.md R470, R471): the oscillator derived in a block whose units are at their reset
values, and every pin driven there, where no host-wired sink reacts.
-/

namespace Sys2Proof.Machine

open Sys2Proof

/-! ### Pins of a block whose units are at reset -/

/-- The units that a pin shows, and that host-wired sinks notify, are at their reset values (R470). -/
structure UnitsReset (s : State) : Prop where
  t0 : s.t0 = Timer0.atReset
  t1 : s.t1 = Timer1.atReset
  ccp : ∀ i, s.ccp i = Ccp.atReset
  clc : ∀ n, s.clc n = Clc.atReset
  nco : s.nco = Nco.atReset

theorem UnitsReset.of_units {s t : State} (h : UnitsReset s) (h0 : t.t0 = s.t0 := by exact rfl)
    (h1 : t.t1 = s.t1 := by exact rfl) (hccp : ∀ i, t.ccp i = s.ccp i := by exact fun i => by cases i <;> rfl)
    (hclc : ∀ n, t.clc n = s.clc n := by exact fun n => by cases n <;> rfl)
    (hnco : t.nco = s.nco := by exact rfl) : UnitsReset t :=
  ⟨h0.trans h.t0, h1.trans h.t1, fun i => (hccp i).trans (h.ccp i), fun n => (hclc n).trans (h.clc n),
    hnco.trans h.nco⟩

/-- A unit at reset counts no edge and captures none (R216, R226, R285, R405). -/
theorem sinkNotify_atReset {s : State} (h : UnitsReset s) {k : SinkId} (hk : k.hostWired = true) (w : Wire) (p : PinIx)
    (old new : Level) : sinkNotify w k p old new s = s := by
  obtain ⟨h0, h1, hccp, -, hnco⟩ := h
  cases k with
  | t0cki => simp [sinkNotify, t0Edge, t0En, h0, Timer0.atReset, bit]
  | t1cki => simp [sinkNotify, t1Edge, t1On, h1, Timer1.atReset, bit]
  | t1osi => simp [sinkNotify, t1Edge, t1On, h1, Timer1.atReset, bit]
  | ccpIn i => simp [sinkNotify, captureSink, captureEdge, ccpMode, hccp, Ccp.atReset, field]
  | ncoclk =>
    have hedge : ncoClockEdge w 3 s = s := by simp [ncoClockEdge, ncoEn, hnco, Nco.atReset, bit]
    exact (congrArg (ite _ · s) hedge).trans (ite_self s)
  | t1g => cases hk
  | clcIn n y => cases hk
  | ccpShut i => cases hk
  | tRst x => cases hk

/-- What a pin shows whose source and control are units at reset, with Z outside: the outputs of the cells and of the NCO
are low, those of the CCP units undriven, and no unit's control says OUT (R175, R470). -/
def Pin.resetLevel (m : Pin) : Level :=
  match m.src, m.ctl with
  | some (.clc _), some .alwaysOut => .L
  | some .nco, some .alwaysOut => .L
  | _, _ => .Z

/-- At reset the cells' and the NCO's outputs are low, the CCP units' are not driven (R283, R377, R404). -/
theorem srcLevel_atReset {s : State} (h : UnitsReset s) :
    (∀ k, srcLevel s (.ccp1 k) = .Z) ∧ srcLevel s .ccp2A = .Z ∧ (∀ n, srcLevel s (.clc n) = .L) ∧
      srcLevel s .nco = .L := by
  obtain ⟨-, -, hccp, hclc, hnco⟩ := h
  have h1 : s.ccp1 = Ccp.atReset := hccp .ccp1
  have h2 : s.ccp2 = Ccp.atReset := hccp .ccp2
  refine ⟨fun k => ?_, ?_, fun n => ?_, ?_⟩
  · simp [srcLevel, h1, Ccp.atReset]
  · simp [srcLevel, h2, Ccp.atReset]
  · simp [srcLevel, hclc, Clc.atReset, levelOfBool]
  · simp [srcLevel, hnco, Nco.atReset, ncoPinLevel, ncoEn, bit, levelOfBool]

/-- At reset no control but the permanent one says OUT (R115). -/
theorem ctlOut_atReset {s : State} (h : UnitsReset s) (c : CtlId) : ctlOut s c = decide (c = .alwaysOut) := by
  obtain ⟨-, -, hccp, hclc, hnco⟩ := h
  have h1 : s.ccp1 = Ccp.atReset := hccp .ccp1
  have h2 : s.ccp2 = Ccp.atReset := hccp .ccp2
  cases c with
  | alwaysOut => rfl
  | alwaysIn => rfl
  | ccp1 k => simp [ctlOut, h1, Ccp.atReset]
  | ccp2A => simp [ctlOut, h2, Ccp.atReset]
  | clc n => simp [ctlOut, hclc, Clc.atReset, clcEn, bit]
  | nco => simp [ctlOut, hnco, Nco.atReset, ncoEn, bit]

theorem pinObservable_atReset {s : State} (h : UnitsReset s) {m : Pin} (hext : m.ext = .Z) :
    pinObservable s m = m.resetLevel := by
  obtain ⟨hccp1, hccp2, hclc, hnco⟩ := srcLevel_atReset h
  obtain ⟨src, ctl, sinks, ext, lvl⟩ := m
  subst hext
  rw [pinObservable_eq]
  rcases src with _ | a
  · rfl
  · rcases ctl with _ | c
    · cases a <;> rfl
    · by_cases hc : c = .alwaysOut
      · subst hc
        cases a <;> simp [Pin.resetLevel, ctlOut, hccp1, hccp2, hclc, hnco]
      · cases a <;> simp [Pin.resetLevel, ctlOut_atReset h, hc]

/-! ### Every pin driven -/

/-- The block that drives its pins during a reset (R470). -/
structure PinsReset (s : State) : Prop extends UnitsReset s where
  sinks : ∀ p : PinIx, ∀ k ∈ s.pins[p].sinks, k.hostWired = true
  ext : ∀ p : PinIx, s.pins[p].ext = .Z
  depth : s.pinDepth < s.cfg.busDepthMax

/-- The records of the pins of `l` that come to show another level (R175). -/
def State.resetRecords (s : State) (l : List PinIx) : List OutRec :=
  (l.filter fun p => decide (s.pins[p].resetLevel ≠ s.pins[p].lvl)).map fun p =>
    .pin p s.pins[p].resetLevel s.now.toNat

/-- The block with the pins of `l` showing what they show at reset, every change recorded. -/
def State.showReset (s : State) (l : List PinIx) : State := { s with
  pins := Vector.ofFn fun p : PinIx => { s.pins[p] with
    lvl := if p ∈ l then s.pins[p].resetLevel else s.pins[p].lvl }
  out := s.out ++ s.resetRecords l }

theorem showReset_pin (s : State) (l : List PinIx) (p : PinIx) : (s.showReset l).pins[p] =
    { s.pins[p] with lvl := if p ∈ l then s.pins[p].resetLevel else s.pins[p].lvl } := by simp [State.showReset]

theorem PinsReset.showReset {s : State} (h : PinsReset s) (l : List PinIx) : PinsReset (s.showReset l) := by
  refine ⟨h.toUnitsReset.of_units, fun p => ?_, fun p => ?_, h.depth⟩
  · rw [showReset_pin]
    exact h.sinks p
  · rw [showReset_pin]
    exact h.ext p

theorem showReset_nil (s : State) : s.showReset [] = s := by simp [State.showReset, State.resetRecords]

/-- One pin shown at reset, as an update of its module. -/
theorem showReset_singleton (s : State) (p : PinIx) : s.showReset [p] = { s with
    pins := s.pins.set p { s.pins[p] with lvl := s.pins[p].resetLevel }
    out := s.out ++ (if s.pins[p].resetLevel = s.pins[p].lvl then []
      else [.pin p s.pins[p].resetLevel s.now.toNat]) } := by
  have hpins : (s.showReset [p]).pins = s.pins.set p { s.pins[p] with lvl := s.pins[p].resetLevel } := by
    apply Vector.ext
    intro j hj
    refine (showReset_pin s [p] ⟨j, hj⟩).trans ?_
    by_cases h : p.val = j
    · subst h
      simp
    · have hne : (⟨j, hj⟩ : PinIx) ≠ p := fun he => h (congrArg Fin.val he).symm
      simp [hne, h]
  have hrecords : s.resetRecords [p] = if s.pins[p].resetLevel = s.pins[p].lvl then []
      else [.pin p s.pins[p].resetLevel s.now.toNat] := by
    unfold State.resetRecords
    split
    next h => simpa using h
    next h => simpa using h
  exact congrArg₂ (fun pins l => { s with pins := pins, out := s.out ++ l }) hpins hrecords

/-- One pin after another is all of them. -/
theorem showReset_cons {p : PinIx} {l : List PinIx} (hp : p ∉ l) (s : State) :
    (s.showReset [p]).showReset l = s.showReset (p :: l) := by
  have hother {q : PinIx} (hq : q ∈ l) : (s.showReset [p]).pins[q] = s.pins[q] := by
    rw [showReset_pin, if_neg]
    rw [List.mem_singleton]
    rintro rfl
    exact hp hq
  have hrecords : (s.showReset [p]).resetRecords l = s.resetRecords l := by
    unfold State.resetRecords
    rw [List.filter_congr fun q hq => by rw [hother hq]]
    exact List.map_congr_left fun q hq => by rw [hother (List.mem_of_mem_filter hq)]; rfl
  have hout : ((s.showReset [p]).showReset l).out = (s.showReset (p :: l)).out := by
    have hsplit : s.resetRecords (p :: l) = s.resetRecords [p] ++ s.resetRecords l := by
      unfold State.resetRecords
      rw [← List.map_append, ← List.filter_append, List.singleton_append]
    show s.out ++ s.resetRecords [p] ++ (s.showReset [p]).resetRecords l = s.out ++ s.resetRecords (p :: l)
    rw [hrecords, hsplit, List.append_assoc]
  have hpins : ((s.showReset [p]).showReset l).pins = (s.showReset (p :: l)).pins := by
    apply Vector.ext
    intro j hj
    refine (showReset_pin (s.showReset [p]) l ⟨j, hj⟩).trans (Eq.trans ?_ (showReset_pin s (p :: l) ⟨j, hj⟩).symm)
    rw [showReset_pin]
    by_cases hq : (⟨j, hj⟩ : PinIx) ∈ l <;> simp [hq, Pin.resetLevel]
  exact congrArg₂ (fun pins o => { s with pins := pins, out := o }) hpins hout

theorem foldl_stays {α β : Type} {f : β → α → β} {l : List α} {b : β} (h : ∀ a ∈ l, f b a = b) : l.foldl f b = b :=
  List.foldlRecOn (motive := (· = b)) l f rfl fun _ hc a ha => hc ▸ h a ha

/-- A pin driven during a reset shows its level there, and no sink reacts (R175, R179). -/
theorem drive_atReset {s : State} (h : PinsReset s) (p : PinIx) : signal (.drive p) s = s.showReset [p] := by
  have hobs := pinObservable_atReset h.toUnitsReset (h.ext p)
  rw [showReset_singleton]
  show pinDriveWith _ p s = _
  rw [pinDriveWith]
  dsimp only
  rw [hobs]
  by_cases hl : s.pins[p].resetLevel = s.pins[p].lvl
  · rw [if_pos hl, if_pos hl, hl, List.append_nil]
    exact (setPin_self s p).symm
  · rw [if_neg hl, if_neg (Nat.not_le.2 h.depth), if_neg hl,
      foldl_stays fun k hk => sinkNotify_atReset h.toUnitsReset.of_units (h.sinks p k hk) _ _ _ _]
    rfl

/-- The pins of a list driven one after another (R470). -/
theorem foldl_drive_atReset {l : List PinIx} (hl : l.Nodup) {s : State} (h : PinsReset s) :
    l.foldl (fun s p => signal (.drive p) s) s = s.showReset l := by
  induction l generalizing s with
  | nil => exact (showReset_nil s).symm
  | cons p l ih =>
    obtain ⟨hp, hl⟩ := List.nodup_cons.1 hl
    rw [List.foldl_cons, drive_atReset h, ih hl (h.showReset [p]), showReset_cons hp]

theorem driveAllPins_atReset {s : State} (h : PinsReset s) : driveAllPins s = s.showReset s.allPins :=
  foldl_drive_atReset ((List.nodup_finRange 32).filter _) h

end Sys2Proof.Machine
end

section
/-!
Proof of the statement of 70_reset_and_hazards.md about RESET (R470, R471, R474): the blank block with the wiring, its
oscillator derived and its frequency told, then every pin driven.
-/

namespace Sys2Proof.Machine

open Sys2Proof

/-! ### The oscillator -/

/-- The derivation where hosts alone hear the frequency and no timer runs on the internal RC (R340, R347). -/
theorem oscDerive_alone {s : State} (h : (oscDerived s).oscAlone) :
    oscDerive signal s = freqTold (derivedFreq s) (oscDerived s) := by
  have htold : (freqTold (derivedFreq s) (oscDerived s)).oscAlone := h
  rw [oscDerive_eq, republish_alone h, t2ReratioStale_alone htold]

/-- The block starts on the external source (R341, R470). -/
def startsExternal (cfg : Cfg) : Bool := decide (cfg.foscCfg = .external)

/-- The frequency of the internal RC at the reset values of OSCCON and OSCTUNE (R343). -/
def resetIntFreq (cfg : Cfg) : Rat := (cfg.ircfTable.getD 7 (0, .lf)).1 * cfg.tuneFactor.getD 0 1

/-- The frequency that a reset leaves (R340). -/
def resetFreq (cfg : Cfg) : Rat :=
  if startsExternal cfg && !cfg.twoSpeed then cfg.foscExtHz else resetIntFreq cfg

/-- The oscillator's events after a reset: the warm-up of an external source, the settle delay of the internal RC
(R340). -/
def resetQueue (cfg : Cfg) : List Event :=
  let settle : Nat → Event := fun n => ⟨cfg.settleCycles, n, .oscSettle⟩
  let ost : Event := ⟨cfg.ostCycles, 0, .oscOst⟩
  if startsExternal cfg then
    (if cfg.twoSpeed then (if cfg.settleCycles < cfg.ostCycles then [settle 1, ost] else [ost, settle 1]) else [ost])
  else [settle 0]

/-- The oscillator after a reset, at the frequency `f` (R340, R470). -/
def resetOsc (cfg : Cfg) (f : Rat) : Osc := { Osc.atReset with
  state := if startsExternal cfg then .ost else .intRc
  target := if startsExternal cfg then some .primary else none
  fInt := resetIntFreq cfg
  fEff := f }

theorem oscSrc_atReset (cfg : Cfg) :
    oscSrc cfg Osc.atReset.con = if startsExternal cfg then some .primary else none := by
  have hscs : oscScs Osc.atReset.con = 0 := by decide
  rw [oscSrc, hscs, startsExternal]
  cases cfg.foscCfg <;> rfl

theorem oscIntFreq_atReset (cfg : Cfg) : oscIntFreq cfg Osc.atReset.con Osc.atReset.tune = resetIntFreq cfg :=
  congrArg (· * cfg.tuneFactor.getD 0 1) (mul_one _)

theorem derivedFreq_resetBase (s : State) : derivedFreq (resetBase s) = resetFreq s.cfg := by
  have hsrc : oscSrc (resetBase s).cfg (resetBase s).osc.con = _ := oscSrc_atReset s.cfg
  have hint : oscIntFreq (resetBase s).cfg (resetBase s).osc.con (resetBase s).osc.tune = _ := oscIntFreq_atReset s.cfg
  have htwo : (resetBase s).cfg.twoSpeed = s.cfg.twoSpeed := rfl
  rw [derivedFreq, hsrc, hint, htwo, resetFreq]
  cases startsExternal s.cfg <;> cases s.cfg.twoSpeed <;> rfl

theorem oscDerived_resetBase (s : State) : oscDerived (resetBase s) = { resetBase s with
    seq := if startsExternal s.cfg && s.cfg.twoSpeed then 2 else 1
    queue := resetQueue s.cfg
    osc := resetOsc s.cfg 0 } := by
  have hcleared : oscCleared (resetBase s) = { resetBase s with
      osc := { Osc.atReset with fInt := resetIntFreq s.cfg } } := by
    rw [← oscIntFreq_atReset]
    rfl
  have hsrc : oscSrc (resetBase s).cfg (resetBase s).osc.con = _ := oscSrc_atReset s.cfg
  have htwo : (resetBase s).cfg.twoSpeed = s.cfg.twoSpeed := rfl
  rw [oscDerived, hsrc, hcleared]
  cases hext : startsExternal s.cfg with
  | false =>
    show onInternal _ = _
    rw [onInternal, startSettle_eq]
    simp [resetBase, State.blank, insertEvent, resetQueue, resetOsc, Osc.atReset, hext]
  | true =>
    show warmingUp .primary false _ = _
    simp only [warmingUp, htwo, startSettle_eq, reschedule_with]
    cases hts : s.cfg.twoSpeed with
    | false => simp [resetBase, State.blank, insertEvent, resetQueue, resetOsc, Osc.atReset, hext, hts, cancel]
    | true => simp [resetBase, State.blank, insertEvent, Event.before, resetQueue, resetOsc, Osc.atReset, hext, hts]

/-! ### The frequency told -/

theorem resetBase_subsOf (s : State) (k : ChanKind) : (resetBase s).subsOf k = (s.subsOf k).filter RecvId.isHost := by
  simp [resetBase, State.subsOf]

theorem resetBase_pin (s : State) (p : PinIx) : (resetBase s).pins[p] = resetPin s.pins[p] := by simp [resetBase]

/-- The records of the frequency that a reset leaves: none if it is 0 (R347, R470). -/
def State.resetFreqRecords (s : State) : List OutRec :=
  if resetFreq s.cfg = 0 then [] else .freq (resetFreq s.cfg).floor.toNat 0 ::
    ((s.subsOf .freq).filter RecvId.isHost).map (fun r => .recv r .freq 0 (resetFreq s.cfg).floor.toNat 0)

/-- The block of a reset before its pins are driven: the blank block with the wiring, its oscillator derived (R340,
R470). -/
def State.resetDerived (s : State) : State := { resetBase s with
  seq := if startsExternal s.cfg && s.cfg.twoSpeed then 2 else 1
  queue := resetQueue s.cfg
  osc := resetOsc s.cfg (resetFreq s.cfg)
  out := s.out ++ s.resetFreqRecords }

theorem oscDerive_resetBase {s : State} (hdepth : 0 < s.cfg.busDepthMax) :
    oscDerive signal (resetBase s) = s.resetDerived := by
  have halone : (oscDerived (resetBase s)).oscAlone := by
    rw [oscDerived_resetBase]
    refine ⟨fun r hr => ?hosts, hdepth, fun x hrun => ?still⟩
    case hosts =>
      have hmem : r ∈ (resetBase s).subsOf .freq := hr
      rw [resetBase_subsOf] at hmem
      exact (List.mem_filter.1 hmem).2
    case still => cases x <;> cases hrun
  have hrecords : (oscDerived (resetBase s)).freqRecords (resetFreq s.cfg) = s.resetFreqRecords := by
    rw [oscDerived_resetBase, State.resetFreqRecords, ← resetBase_subsOf]
    rfl
  rw [oscDerive_alone halone, derivedFreq_resetBase, freqTold, hrecords, oscDerived_resetBase]
  rfl

/-! ### RESET -/

theorem pinsReset_resetDerived {s : State} (hdepth : 0 < s.cfg.busDepthMax) : PinsReset s.resetDerived := by
  have hpin (p : PinIx) : s.resetDerived.pins[p] = resetPin s.pins[p] := resetBase_pin s p
  refine ⟨⟨rfl, rfl, fun i => ?_, fun n => ?_, rfl⟩, fun p k hk => ?_, fun p => ?_, hdepth⟩
  · cases i <;> rfl
  · cases n <;> rfl
  · rw [hpin] at hk
    exact (List.mem_filter.1 hk).2
  · rw [hpin]
    rfl

/-- Settles O59: the oscillator's derivation by `oscDerive_resetBase`, then every pin by `driveAllPins_atReset`. -/
theorem resetClears : Obligations.ResetClears := by
  intro s hdepth ext two fInt f settle ost shown
  have hpin (p : PinIx) : s.resetDerived.pins[p] = resetPin s.pins[p] := resetBase_pin s p
  have hblock : resetBlock s = s.resetDerived.showReset s.allPins := by
    rw [resetBlock, oscDerive_resetBase hdepth]
    exact driveAllPins_atReset (pinsReset_resetDerived hdepth)
  have hpins : (s.resetDerived.showReset s.allPins).pins = Vector.ofFn (fun p : PinIx => { s.pins[p] with
      sinks := s.pins[p].sinks.filter SinkId.hostWired, ext := .Z
      lvl := if p.val < s.cfg.nPin then shown s.pins[p] else s.pins[p].lvl }) := by
    refine congrArg Vector.ofFn (funext fun p => ?_)
    simp only [hpin, mem_allPins]
    rfl
  have hrecords : s.resetDerived.resetRecords s.allPins =
      ((List.finRange 32).filter (fun p => decide (p.val < s.cfg.nPin ∧ shown s.pins[p] ≠ s.pins[p].lvl))).map (fun p =>
        .pin p (shown s.pins[p]) 0) := by
    unfold State.resetRecords State.allPins
    rw [List.filter_filter]
    simp only [hpin]
    refine congrArg (List.map _) (List.filter_congr fun p _ => ?_)
    rw [Bool.decide_and, Bool.and_comm]
    rfl
  show Host.Outcome.next (resetBlock s) = _
  rw [hblock]
  refine congrArg Host.Outcome.next ?_
  rw [← hpins, ← hrecords]
  rfl

end Sys2Proof.Machine
end
